-- ==== Sys2Proof/Word.lean ====
section
/-! DEFINITION. The plain types of the MC-816: octets, words, times and the numbers that name its parts. -/

namespace Sys2Proof

/-- One octet of host memory or of the bay link. -/
abbrev Byte := BitVec 8

/-- A 32-bit register of the register window, or a 32-bit field of a record. -/
abbrev Word32 := BitVec 32

/-- An address in host memory (section 0.5: "Addresses in host memory are 64-bit"). -/
abbrev Addr := BitVec 64

/-- A value of the timebase (R1): a 32-bit count of microseconds that wraps. -/
abbrev Time := BitVec 32

/-- A site, 0–7. -/
abbrev SiteId := Fin 8

/-- A lane, 0–8: lanes 0–7 are the site lanes and lane 8 is the service lane (R37). -/
abbrev LaneId := Fin 9

/-- A bay address, 0–7 (R2). -/
abbrev BayId := Fin 8

/-- A row, 0–15 (R3). -/
abbrev RowId := Fin 16

/-- A DUT column, 0–511 (R4). -/
abbrev ColumnId := Fin 512

/-- A path id, 0–255 (R19). -/
abbrev PathId := Fin 256

/-- A relay number, 0–8,319 (R6). -/
abbrev RelayNo := Fin 8320

/-- A relay type, 0–3 (R8). -/
abbrev TypeId := Fin 4

/-- The lane that serves site `n` (R37). -/
abbrev siteLane (n : SiteId) : LaneId := ⟨n.val, by omega⟩

/-- The service lane (R37). -/
abbrev serviceLane : LaneId := 8

end Sys2Proof
end

