-- ==== Sys2Proof/Config.lean ====
section
/-! DEFINITION. What an implementation of the MC-816 fixes: the fixed lengths the manual states, and the one value it leaves open. -/

namespace Sys2Proof

/-- R168: IDENT reads "the silicon revision number", which the manual never states: a value left free. -/
opaque Config.siliconRevision : Byte

/-- R54: an access with no completion 50,000 µs after it was issued is a memory error. -/
def Config.memoryTimeout : Nat := 50000

/-- R163: a keep-alive falls due 1 ms after the grant of the last frame addressed to the bay. -/
def Config.keepAlive : Nat := 1000

/-- R162: the poll lockout runs for 1 ms. -/
def Config.pollLockout : Nat := 1000

/-- R164: a re-probe falls due each time 100 ms have passed. -/
def Config.reprobe : Nat := 100000

/-- R165: discovery asserts BRST for 100 µs. -/
def Config.brstPulse : Nat := 100

/-- R166: a waiting bay is probed again 1 ms after its previous PROBE resolved. -/
def Config.discoveryReprobe : Nat := 1000

/-- R166: the ready wait of a waiting bay is 50 ms. -/
def Config.readyWait : Nat := 50000

/-- R149: the wear area moves in 520 transfers of 64 bytes. -/
def Config.wearTransfers : Nat := 520

/-- R143: the largest value of a wear counter. -/
def Config.wearMax : Nat := 4294967295

end Sys2Proof
end

