-- ==== Sys2Proof/Syntax.lean ====
section
/-! DEFINITION. The commands and events of the MC-816, one constructor per row of spec/opcode_table.json, with the operands the spec gives each. -/

namespace Sys2Proof

/-- The registers of the window that have no behaviour of their own for writes (R168). -/
inductive PassiveRegister where
  | ident | status | cause
deriving DecidableEq, Repr

/-- The ways in which a frame fails (R157, R181). -/
inductive FrameFault where
  /-- no reply begins within the reply limit -/
  | noReply
  /-- the reply is cut short, or is not of the length its kind requires -/
  | cutShort
  /-- the reply names another bay or another kind -/
  | misaddressed
  /-- the check octet is wrong -/
  | badCheck
  /-- the acknowledgement code is neither 0 nor 1 -/
  | badAckCode
deriving DecidableEq, Repr

/-- One command or event. A completion of a memory access names the access by its tag and carries what the access
returned (`none` or `false`: it ended in error, R54). A `bytes` operand of a register access says which bytes of
the register the access names (R180). -/
inductive Instr where
  -- the commands of the CONTROL register (R169)
  | enable
  | disable
  | parkAll
  | resetDevice
  | laneSkip (lane : BitVec 16)
  | laneReset (lane : BitVec 16)
  | laneResume (lane : BitVec 16)
  | laneStart (mask : BitVec 16)
  | strobe (mask : BitVec 16)
  | unknownCommand (code : BitVec 8) (argument : BitVec 16)
  -- the other register accesses (R168, R174, R180)
  | causeRead (bytes : BitVec 4)
  | causeEnableWrite (bytes : BitVec 4) (value : Word32)
  | configAddressWrite (high : Bool) (bytes : BitVec 4) (value : Word32)
  | registerWrite (register : PassiveRegister) (bytes : BitVec 4) (value : Word32)
  -- the resets from outside (R176)
  | powerOnReset
  | pcieHotReset
  -- the input lines (Table 0-3)
  | stbEdge (site : SiteId)
  | stpEdge (site : SiteId)
  | liveEdge (row : RowId) (level : Bool)
  | srqChange (level : Bool)
  -- the timers of the lanes (chapter 3)
  | pollTimerExpiry (lane : LaneId)
  | cadenceTimerExpiry (lane : LaneId)
  | offsetTimerExpiry (site : SiteId)
  -- the memory accesses of the lanes and of the service orders
  | recordReadDone (lane : LaneId) (tag : Nat) (result : Option (Vector Byte 64))
  | linkReadDone (lane : LaneId) (tag : Nat) (result : Option (Vector Byte 8))
  | headReadDone (lane : LaneId) (tag : Nat) (result : Option (Vector Byte 8))
  | startResultWriteDone (lane : LaneId) (tag : Nat) (ok : Bool)
  | takenWriteDone (lane : LaneId) (tag : Nat) (ok : Bool)
  | wearClear
  | defineEntryReadDone (tag : Nat) (result : Option (Vector Byte 40))
  | endResultWriteDone (lane : LaneId) (tag : Nat) (ok : Bool)
  | stateWriteDone (lane : LaneId) (tag : Nat) (ok : Bool)
  | laneStatusWriteDone (lane : LaneId) (tag : Nat) (ok : Bool)
  | bayStatusWriteDone (bay : BayId) (tag : Nat) (ok : Bool)
  | memoryAccessTimeout (tag : Nat)
  | wearSaveTransferDone (tag : Nat) (ok : Bool)
  | wearLoadTransferDone (tag : Nat) (result : Option (Vector Byte 64))
  | configBlockReadDone (tag : Nat) (result : Option (Vector Byte 1280))
  | enableWearTransferDone (tag : Nat) (result : Option (Vector Byte 64))
  | disableSaveTransferDone (tag : Nat) (ok : Bool)
  -- the bay link (chapter 10)
  | linkGrant
  | waveAck
  | waveNak (reasons : Byte)
  | senseReply (words : List Byte)
  | statusReply (reasons : Byte)
  | clearReply
  | pollSlotsEnd (slots : Vector (Option Byte) 8)
  | frameFirstFailure (fault : FrameFault)
  | frameFinalFailure (fault : FrameFault)
  | discoveryProbeReply (model ready reasons : Byte)
  | brstPulseEnd
  | discoveryReprobeDue (bay : BayId)
  | readyWaitExpiry (bay : BayId)
  | keepaliveExpiry (bay : BayId)
  | reprobeTimerExpiry (bay : BayId)
  | reprobeReply (model ready reasons : Byte)
  | pollLockoutExpiry
  | busyWindowEnd (bay : BayId)
  -- the timers of the claim arbiter and of the switch contexts (chapters 4, 6, 7 and 8)
  | claimWaitExpiry (site : SiteId)
  | breakTimerExpiry (site : SiteId) (bay : BayId)
  | gapTimerExpiry (site : SiteId)
  | spacingTimerExpiry (site : SiteId) (bay : BayId)
  | makeTimerExpiry (site : SiteId) (bay : BayId)
  | settleTimerExpiry (site : SiteId)
  | hotHoldExpiry (site : SiteId)
  | stepSettleExpiry (site : SiteId)
  | dwellExpiry (site : SiteId)
  | stepWaitExpiry (site : SiteId)
  | cleanupBreakHoldExpiry (site : SiteId)
deriving DecidableEq, Repr

end Sys2Proof
end

