-- ==== Sys2Proof/Machine/State.lean ====
section
/-! DEFINITION. The state of the MC-816: every register, table, timer, mark, queue and line the spec gives it, as plain
data, and its value after reset. The names are the manual's. -/

namespace Sys2Proof.Machine

/-- Why the machine stops with a fault: no step of the MC-816 does (the manual describes every error it meets as an
effect on the state: a halt, a failed record, a cause), so this type has no value. Safe. -/
inductive Fault where
deriving DecidableEq, Repr

/-- Why a command has no meaning. -/
inductive Refusal where
  /-- Raised by an arm of `exec` for a command that the model does not cover; no arm raises it now. Safe: nothing is
  claimed of a command that is refused. -/
  | notModelled (mnemonic : String)
deriving DecidableEq, Repr

/-! ## Memory accesses -/

/-- A read of `len` octets, or a write of octets, of host memory. -/
inductive MemReq where
  | read (addr : Addr) (len : Nat)
  | write (addr : Addr) (data : List Byte)
deriving DecidableEq, Repr

/-- A memory access that the part has issued and whose completion it has not taken (R54). The tag is the model's name
for the access: a completion names the access it completes by it. -/
structure MemAccess where
  tag : Nat
  issued : Time
  req : MemReq
deriving DecidableEq, Repr

/-- The writes of one status word (R53, R160): the write in flight with the causes that follow it, and the writes still
owed, each with the causes that follow it, in order. -/
structure StatusPort where
  access : Option MemAccess
  causes : BitVec 7
  owed : List (BitVec 7)
deriving DecidableEq, Repr

/-! ## The host interface (chapter 11) -/

/-- The five device states (R169). -/
inductive DeviceState where
  | disabled | enabling | enabled | parking | disabling
deriving DecidableEq, Repr

/-- The enable failure codes (Table 12-13). -/
inductive EnableFailure where
  | none | badVersion | badMap | badRow | badType | noBays | badLane | memory | wearArea
deriving DecidableEq, Repr

/-- How far the passage of ENABLING (R170, R171), PARKING (R172) or DISABLING (R173) has come; `idle` outside one. -/
inductive Passage where
  | idle
  /-- ENABLE: the configuration block is being read -/
  | configRead
  /-- ENABLE: discovery -/
  | discovery
  /-- ENABLE: transfer `j` of the wear load is in flight -/
  | wearLoad (j : Nat)
  /-- ENABLE: the status words are being written -/
  | enableStatus
  /-- PARK_ALL or DISABLE: the lanes wind down -/
  | aborting
  /-- PARK_ALL or DISABLE: the park waves are sent -/
  | parkWaves
  /-- PARK_ALL: the matrix is clear, the status words of the PARKED halts are being written -/
  | parkStatus
  /-- DISABLE: transfer `j` of the wear save is in flight -/
  | disableSave (j : Nat)
  /-- DISABLE: the status words are being written -/
  | disableStatus
deriving DecidableEq, Repr

/-- The registers of the host interface and the device-level passage. -/
structure HostInterface where
  device : DeviceState
  refused : Bool
  failure : EnableFailure
  configLo : Word32
  configHi : Word32
  cause : BitVec 7
  causeEnable : BitVec 7
  /-- what the last read of CAUSE returned to the host -/
  causeRead : Word32
  passage : Passage
  /-- the memory access of the passage -/
  access : Option MemAccess
deriving DecidableEq, Repr

/-! ## The configuration copies (R9, R118) -/

/-- The three times of a relay type (R8). -/
structure RelayTimes where
  operate : BitVec 16
  release : BitVec 16
  bounce : BitVec 16
deriving DecidableEq, Repr

/-- The two wear thresholds of a relay type (R8); 0 = none. -/
structure Thresholds where
  warn : Word32
  retire : Word32
deriving DecidableEq, Repr

/-- The copy of a bay's entry of the bay table (R2). -/
structure BayConfig where
  model : Byte
  crosspointType : TypeId
  isolationType : TypeId
  waveLimit : Byte
  extension : Byte
deriving DecidableEq, Repr

/-- The copy of a row's entry of the row table (R3); owner `none` = shared. -/
structure RowConfig where
  owner : Option SiteId
  currentClass : Fin 4
  liveEnable : Bool
deriving DecidableEq, Repr

/-- The copies taken from the configuration block at ENABLE, but for the lane descriptors, the thresholds, the wear area
address and the live enables, which stand with the blocks that use them. -/
structure ConfigCopies where
  expected : BitVec 8
  bays : Vector BayConfig 8
  rows : Vector RowConfig 16
  columns : Vector (Option SiteId) 512
  types : Vector RelayTimes 4
  gap : BitVec 16
  hotWeights : Vector Byte 4
deriving DecidableEq, Repr

/-! ## The crosspoint image (R10) and the relay health unit (R143) -/

/-- A busy window: the acknowledgement time of the bay's most recent closing wave, and the hold length. -/
structure BusyWindow where
  acked : Time
  hold : Nat
deriving DecidableEq, Repr

/-- The crosspoint image: the CLOSED relays in ascending relay number (every other relay is OPEN), and each bay's busy
window, `none` = CLEAR. -/
structure Image where
  closed : List RelayNo
  windows : Vector (Option BusyWindow) 8
deriving DecidableEq, Repr

/-- The relay health unit: the non-zero wear counters in ascending relay number (every other counter is 0), the relays
that carry each mark in ascending relay number, the thresholds in force (R8), those read by an ENABLE in progress and not
yet taken (R149, R170), and the wear area address copy. -/
structure Health where
  wear : List (RelayNo × Nat)
  worn : List RelayNo
  retired : List RelayNo
  suspect : List RelayNo
  thresholds : Vector Thresholds 4
  staged : Vector Thresholds 4
  wearArea : Addr
deriving DecidableEq, Repr

/-- The live-line monitor (R117): the live enables, and the levels of the LIVE input lines. -/
structure LiveMonitor where
  enable : Vector Bool 16
  line : Vector Bool 16
deriving DecidableEq, Repr

/-! ## The path table (chapter 2) -/

/-- A hot policy (R19); the strictest is REFUSE (R120). -/
inductive HotPolicy where
  | allow | wait | refuse
deriving DecidableEq, Repr

/-- The states of a path (R22). -/
inductive PathState where
  | undefined | idle | pending | active | broken
deriving DecidableEq, Repr

/-- The state a PENDING path left (R19). -/
inductive PriorState where
  | idle | active | broken
deriving DecidableEq, Repr

/-- An entry of the path table (R19). -/
structure PathEntry where
  state : PathState
  site : SiteId
  policy : HotPolicy
  extraSettle : BitVec 16
  crosspoints : List (RowId × ColumnId)
  rowSet : List RowId
  prior : Option PriorState
deriving DecidableEq, Repr

/-! ## The claim arbiter (chapter 4) -/

/-- An entry of the row holder table (R63). -/
inductive RowHolder where
  | free
  | path (p : PathId)
  | scan (n : SiteId)
deriving DecidableEq, Repr

/-- An entry of the waiting list (R69). -/
structure WaitEntry where
  lane : SiteId
  rows : List RowId
  enqueued : Time
deriving DecidableEq, Repr

/-- The claim arbiter: the row holder table, the waiting list (oldest first), and the model's own mark that a release or
an append has been made whose walk (R71) has not been run yet; it is clear between commands. -/
structure Arbiter where
  holders : Vector RowHolder 16
  waiting : List WaitEntry
  walkOwed : Bool
deriving DecidableEq, Repr

/-! ## Plans and waves (chapter 5) -/

/-- The completion codes (Table 12-15). -/
inductive Code where
  | ok | badKind | badOperand | pathUndefined | pathNotOwned | pathBusy | rowConflict | rowBusy | relayRetired
  | overBudget | bayUnavailable | hotRefused | hotTimeout | bayFault | bayHeld | senseMismatch | stepTimeout | scanRange
  | aborted | memory
deriving DecidableEq, Repr

/-- Where a wave comes from: a plan or a scan step, a scan's cleanup (R138), or PARK_ALL (R14). -/
inductive WaveSource where
  | planned | cleanup | park
deriving DecidableEq, Repr

/-- A wave: the relays it changes in one bay, all to CLOSED or all to OPEN, in the order they are listed. `span` is the
break hold of an opening wave or the wave operate time of a closing wave, `bounce` the make bounce of a closing wave's bay
(R89), and `hot` its hot set (R121). -/
structure Wave where
  bay : BayId
  closing : Bool
  relays : List RelayNo
  span : Nat
  bounce : Nat
  hot : List RelayNo
  source : WaveSource
deriving DecidableEq, Repr

/-- A plan (R78). `outcome` is `none` when it is ACCEPTED, else the code of the failed check. -/
structure Plan where
  opening : List RelayNo
  closing : List RelayNo
  openingWaves : List Wave
  closingWaves : Vector (List Wave) 8
  breakHolds : Vector (Option Nat) 8
  makeBounces : Vector (Option Nat) 8
  gap : Nat
  settle : Nat
  planned : Nat
  outcome : Option Code
deriving DecidableEq, Repr

/-! ## The switch engine (chapters 6, 7 and 8) -/

/-- A timer that runs from a start time for a length (R1). -/
structure Timer where
  start : Time
  length : Nat
deriving DecidableEq, Repr

/-- A break or make timer of one bay (R95); `absent` where the bay has none in the phase. -/
inductive PhaseTimer where
  | absent | notStarted
  | running (timer : Timer)
  | expired
deriving DecidableEq, Repr

/-- The phases of a switch context (R95). -/
inductive Phase where
  | none | claim | plan | break | gap | make | settle | verify | finish
deriving DecidableEq, Repr

/-- The phases of a scan (R131). -/
inductive ScanPhase where
  | none | claim | guard | stepBreak | stepGap | stepMake | stepSettle | await | cleanup | guardOff | finish
deriving DecidableEq, Repr

/-- The order kinds (Table 12-8). -/
inductive OrderKind where
  | switch | park | verify | scan | define | undefine | wearSave | wearLoad | wearClear
deriving DecidableEq, Repr

/-- An order as its lane hands it over (R95): kind, flags, the 48 operand octets, and the lane's hot-wait limit. -/
structure Order where
  kind : OrderKind
  flags : BitVec 16
  operands : List Byte
  hotWait : Word32
deriving DecidableEq, Repr

/-- A mismatch entry (R148); `true` = CLOSED. -/
structure Mismatch where
  relay : RelayNo
  expected : Bool
  sensed : Bool
deriving DecidableEq, Repr

/-- The result accumulators of an order (R95), with its planned time (R78); failing index `none` = the no-index value. -/
structure Accumulators where
  planned : Nat
  waves : Nat
  closed : Nat
  opened : Nat
  hotOps : Nat
  worn : Bool
  hot : Bool
  suspect : Bool
  failing : Option Nat
  mismatchCount : Nat
  mismatches : List Mismatch
deriving DecidableEq, Repr

/-- The held wave, its hold start (R122), and the failing index that the last check which kept it held would give (R127). -/
structure HeldWave where
  wave : Wave
  start : Time
  failing : Option Nat
deriving DecidableEq, Repr

/-- A switch context (R95), with its scan state (R131). -/
structure Context where
  phase : Phase
  order : Option Order
  /-- the paths the order named, in list order (R27, R28) -/
  disconnect : List PathId
  connect : List PathId
  /-- the order has passed its checks (R29) -/
  passed : Bool
  due : List Wave
  held : Option HeldWave
  holdQueue : List Wave
  breakTimers : Vector PhaseTimer 8
  gapTimer : Option Timer
  /-- the closing waves of each bay that have not fallen due yet -/
  nextClosings : Vector (List Wave) 8
  spacingTimers : Vector (Option Timer) 8
  makeTimers : Vector PhaseTimer 8
  settleTimer : Option Timer
  /-- the verify set (R104), and the bays whose SENSE frame has not been granted yet -/
  verifySet : List RelayNo
  senseDue : List BayId
  ending : Option Code
  /-- an abort has reached the order (R113) -/
  abortTaken : Bool
  /-- the ending is an abort of PARK_ALL or DISABLE, so the order is not judged (R105) -/
  unjudged : Bool
  /-- a wave frame of the order has been granted (R108) -/
  waveGranted : Bool
  acc : Accumulators
  scanPhase : ScanPhase
  stepIndex : Nat
  column : Option ColumnId
  advanceTimer : Option Timer
  stepsReady : Nat
  stepTimeouts : Nat
  /-- the break hold of the scan's cleanup wave (R138) -/
  cleanupHold : Option Timer
deriving DecidableEq, Repr

/-! ## The lanes (chapter 3) -/

/-- Lane states (R37). -/
inductive LaneState where
  | disabled | idle | fetching | offset | running | halted
deriving DecidableEq, Repr

/-- Halt reasons (R37). -/
inductive HaltReason where
  | orderFailed | memoryRead | memoryWrite | badLink | parked
deriving DecidableEq, Repr

/-- The cursor (R41). -/
inductive Cursor where
  | empty
  | next (record : Addr)
  | atTail (record : Addr)
deriving DecidableEq, Repr

/-- The mode of a lane (R38). -/
inductive LaneMode where
  | free | strobed
deriving DecidableEq, Repr

/-- The descriptor copy of a lane (R38). -/
structure LaneDescriptor where
  head : Addr
  mode : LaneMode
  offsetDelay : BitVec 16
  pollInterval : BitVec 16
  cadence : Word32
  claimWait : Word32
  hotWait : Word32
deriving DecidableEq, Repr

/-- The held record: its address and its first 64 octets (R37). -/
structure HeldRecord where
  addr : Addr
  bytes : List Byte
deriving DecidableEq, Repr

/-- What a lane's access to memory is for. -/
inductive LaneOp where
  /-- the read of a record's first 64 octets (R43) -/
  | recordRead
  /-- the read of a link at a start event (R43) -/
  | linkRead
  /-- the read of a link after an order's end (R52) -/
  | endLinkRead
  /-- LANE_RESET's read of the head address (R58) -/
  | headRead
  /-- the result write of an order start (R49 step 3) -/
  | startResult
  /-- the TAKEN write (R49 step 4) -/
  | taken
  /-- the result write of an order's end (R51), or of an abort in OFFSET (R57) -/
  | endResult
  /-- the write of the final state (R51, R57) -/
  | finalState
deriving DecidableEq, Repr

/-- A lane's access in flight. -/
structure LaneAccess where
  op : LaneOp
  access : MemAccess
deriving DecidableEq, Repr

/-- The states that end a record (R39). -/
inductive FinalState where
  | done | failed | aborted
deriving DecidableEq, Repr

/-- A lane command that waits for the accesses or the order in hand (R49, R58, R60): LANE_SKIP, LANE_RESET, or
PARK_ALL and DISABLE. -/
inductive Deferred where
  | none | skip | reset | park
deriving DecidableEq, Repr

/-- A lane context (R37), with its status word's writes (R53). -/
structure Lane where
  state : LaneState
  halt : Option HaltReason
  cursor : Cursor
  desc : LaneDescriptor
  offsetTimer : Option Time
  cadenceTimer : Option Time
  pollTimer : Option Time
  pendingStart : Bool
  missed : Nat
  held : Option HeldRecord
  /-- the missed-strobe snapshot and the start timestamp of the order (R49) -/
  snapshot : Nat
  started : Time
  access : Option LaneAccess
  deferred : Deferred
  /-- the final state that the record is to take -/
  final : FinalState
  /-- a MEMORY cause that waits for the record's state write (R175) -/
  memoryOwed : Bool
  port : StatusPort
deriving DecidableEq, Repr

/-- The order that the service lane runs: DEFINE with its list, count and entry in hand (R23); WEAR_SAVE and WEAR_LOAD
with the transfer in hand (R150, R151); WEAR_CLEAR with its run of relays (R152). -/
inductive ServiceOrder where
  | none
  | define (list : Addr) (count k : Nat)
  | wearSave (j : Nat)
  | wearLoad (j : Nat)
  | wearClear (first count : Nat)
deriving DecidableEq, Repr

/-- The service block: the order in hand, its memory access, and whether an abort waits for that access (R57). -/
structure Service where
  order : ServiceOrder
  access : Option MemAccess
  abort : Bool
deriving DecidableEq, Repr

/-! ## The bay link (chapter 10) -/

/-- Bay states (R159). -/
inductive BayState where
  | absent | probing | online | held | faulted
deriving DecidableEq, Repr

/-- A bay entry (R155), with its keep-alive and re-probe timers and its status word's writes (R160). A due keep-alive or
re-probe waits for its grant (R161). Hold reasons: bit 0 INTERLOCK, bit 1 PANEL_OFFLINE, bit 2 COIL_SUPPLY. -/
structure Bay where
  state : BayState
  reasons : BitVec 3
  model : Byte
  mismatch : Bool
  keepAlive : Option Time
  keepAliveDue : Bool
  reprobe : Option Time
  reprobeDue : Bool
  port : StatusPort
deriving DecidableEq, Repr

/-- The poll state (R155, R162): idle; the POLL on the link; the follow-ups of the listed bays, with the first bay's
STATUS already done or not; or the lockout, with its start. -/
inductive PollState where
  | idle
  | polling
  | followUps (bays : List BayId) (statusDone : Bool)
  | lockout (start : Time)
deriving DecidableEq, Repr

/-- How far discovery has come (R165, R166): the BRST pulse with its start, a pass, or the waiting bays. -/
inductive DiscoveryStage where
  | inactive
  | pulse (start : Time)
  | pass
  | waiting
deriving DecidableEq, Repr

/-- A waiting bay (R166): the time of its first not-ready reply at the rate, the time its last PROBE resolved, and
whether its next PROBE is due. -/
structure WaitingBay where
  bay : BayId
  since : Time
  resolved : Time
  due : Bool
deriving DecidableEq, Repr

/-- Discovery: its stage, the bays the pass has still to probe, the bays silent at the rate, and the waiting bays. -/
structure Discovery where
  stage : DiscoveryStage
  toProbe : List BayId
  silent : List BayId
  waiting : List WaitingBay
deriving DecidableEq, Repr

/-- Who asked for a frame (R161). -/
inductive FrameOwner where
  | poll | followUp | keepAlive | reprobe
  | context (n : SiteId)
  | park
  | discovery
deriving DecidableEq, Repr

/-- A frame's kind with what its payload carries (R156): a WAVE's (coil group, group word) pairs, a SENSE's groups. -/
inductive FrameBody where
  | probe
  | wave (wave : Wave) (words : List (Nat × Byte))
  | sense (groups : List Nat)
  | status
  | clear
  | poll
deriving DecidableEq, Repr

/-- The frame on the link: `repeated` once its first attempt has failed (R157). -/
structure LinkFrame where
  bay : BayId
  body : FrameBody
  owner : FrameOwner
  repeated : Bool
deriving DecidableEq, Repr

/-- The bay link controller (R155): link rate code (`none` = unset), the frame on the link, the bay table, the poll state,
the SRQ input, the BRST output, the round-robin pointer (position 8 = PARK_ALL), discovery, and the opening waves of
PARK_ALL that wait for the link. -/
structure LinkController where
  rate : Option (Fin 3)
  frame : Option LinkFrame
  bays : Vector Bay 8
  poll : PollState
  srq : Bool
  brst : Bool
  pointer : Fin 9
  discovery : Discovery
  parkDue : List Wave
deriving DecidableEq, Repr

/-! ## The state -/

/-- The whole state of the part, and the queue of the commands that wait, first in first out. -/
structure State where
  host : HostInterface
  cfg : ConfigCopies
  image : Image
  health : Health
  live : LiveMonitor
  paths : Vector PathEntry 256
  arbiter : Arbiter
  plans : Vector (Option Plan) 8
  contexts : Vector Context 8
  rdy : Vector Bool 8
  lanes : Vector Lane 9
  service : Service
  link : LinkController
  now : Time
  nextTag : Nat
  pending : List Instr
deriving DecidableEq, Repr

/-! ## Reset values -/

def StatusPort.reset : StatusPort := { access := none, causes := 0, owed := [] }

/-- R168: the registers after reset. -/
def HostInterface.reset : HostInterface :=
  { device := .disabled, refused := false, failure := .none, configLo := 0, configHi := 0, cause := 0, causeEnable := 0,
    causeRead := 0, passage := .idle, access := none }

def BayConfig.reset : BayConfig :=
  { model := 0, crosspointType := 0, isolationType := 0, waveLimit := 0, extension := 0 }

def RowConfig.reset : RowConfig := { owner := none, currentClass := 0, liveEnable := false }

def RelayTimes.reset : RelayTimes := { operate := 0, release := 0, bounce := 0 }

def Thresholds.reset : Thresholds := { warn := 0, retire := 0 }

/-- R9 and R118: the reset values of the copies. -/
def ConfigCopies.reset : ConfigCopies :=
  { expected := 0, bays := .replicate 8 .reset, rows := .replicate 16 .reset, columns := .replicate 512 none,
    types := .replicate 4 .reset, gap := 0, hotWeights := .replicate 4 1 }

/-- R15: every relay OPEN and every busy window CLEAR. -/
def Image.reset : Image := { closed := [], windows := .replicate 8 none }

/-- R143: counters 0, marks clear, wear area address copy 0. -/
def Health.reset : Health :=
  { wear := [], worn := [], retired := [], suspect := [], thresholds := .replicate 4 .reset,
    staged := .replicate 4 .reset, wearArea := 0 }

/-- R117: every enable 0. The levels of the input lines are the instruments': deasserted here (DESIGN CHOICE, log 2). -/
def LiveMonitor.reset : LiveMonitor := { enable := .replicate 16 false, line := .replicate 16 false }

/-- R19: an UNDEFINED entry, its other fields 0, its lists empty and no prior state. -/
def PathEntry.reset : PathEntry :=
  { state := .undefined, site := 0, policy := .allow, extraSettle := 0, crosspoints := [], rowSet := [], prior := none }

/-- R77: every row FREE, the waiting list empty. -/
def Arbiter.reset : Arbiter := { holders := .replicate 16 .free, waiting := [], walkOwed := false }

def Accumulators.reset : Accumulators :=
  { planned := 0, waves := 0, closed := 0, opened := 0, hotOps := 0, worn := false, hot := false, suspect := false,
    failing := none, mismatchCount := 0, mismatches := [] }

/-- R95 and R131: the reset values of a context. -/
def Context.reset : Context :=
  { phase := .none, order := none, disconnect := [], connect := [], passed := false, due := [], held := none,
    holdQueue := [], breakTimers := .replicate 8 .absent, gapTimer := none, nextClosings := .replicate 8 [],
    spacingTimers := .replicate 8 none, makeTimers := .replicate 8 .absent, settleTimer := none, verifySet := [],
    senseDue := [], ending := none, abortTaken := false, unjudged := false, waveGranted := false, acc := .reset,
    scanPhase := .none, stepIndex := 0, column := none, advanceTimer := none, stepsReady := 0, stepTimeouts := 0,
    cleanupHold := none }

def LaneDescriptor.reset : LaneDescriptor :=
  { head := 0, mode := .free, offsetDelay := 0, pollInterval := 0, cadence := 0, claimWait := 0, hotWait := 0 }

/-- R37: the reset values of a lane. -/
def Lane.reset : Lane :=
  { state := .disabled, halt := none, cursor := .empty, desc := .reset, offsetTimer := none, cadenceTimer := none,
    pollTimer := none, pendingStart := false, missed := 0, held := none, snapshot := 0, started := 0, access := none,
    deferred := .none, final := .done, memoryOwed := false, port := .reset }

def Service.reset : Service := { order := .none, access := none, abort := false }

/-- R155: the reset values of a bay entry. -/
def Bay.reset : Bay :=
  { state := .absent, reasons := 0, model := 0, mismatch := false, keepAlive := none, keepAliveDue := false,
    reprobe := none, reprobeDue := false, port := .reset }

def Discovery.reset : Discovery := { stage := .inactive, toProbe := [], silent := [], waiting := [] }

/-- R155: rate unset, link free, bays ABSENT, poll idle, BRST asserted; the pointer at position 0 (R161). The SRQ level is
the bays': deasserted here (DESIGN CHOICE, log 2). -/
def LinkController.reset : LinkController :=
  { rate := none, frame := none, bays := .replicate 8 .reset, poll := .idle, srq := false, brst := true, pointer := 0,
    discovery := .reset, parkDue := [] }

/-- R176: the part right after power-on reset. -/
def State.reset : State :=
  { host := .reset, cfg := .reset, image := .reset, health := .reset, live := .reset, paths := .replicate 256 .reset,
    arbiter := .reset, plans := .replicate 8 none, contexts := .replicate 8 .reset, rdy := .replicate 8 false,
    lanes := .replicate 9 .reset, service := .reset, link := .reset, now := 0, nextTag := 0, pending := [] }

end Sys2Proof.Machine
end

