-- ==== Sys2Proof/Machine/Ops.lean ====
section
/-! DEFINITION. The shared operations over the state: indexed updates, sets in ascending order, the octets of memory, timers,
and the issue of memory accesses. -/

namespace Sys2Proof.Machine

/-! ## Indexed state -/

variable {α β : Type} {k : Nat}

/-- `v` with entry `i` replaced. -/
def setAt (v : Vector α k) (i : Fin k) (x : α) : Vector α k := v.set i.val x i.isLt

/-- `v` with entry `i` changed by `f`. -/
def modAt (v : Vector α k) (i : Fin k) (f : α → α) : Vector α k := setAt v i (f v[i])

/-- `v` with every entry changed by `f`. -/
def mapAt (v : Vector α k) (f : Fin k → α → α) : Vector α k := Vector.ofFn fun i => f i v[i]

/-- Whether `p` holds of every entry. -/
def allAt (v : Vector α k) (p : α → Bool) : Bool := (List.finRange k).all fun i => p v[i]

def State.modLane (s : State) (n : LaneId) (f : Lane → Lane) : State := { s with lanes := modAt s.lanes n f }

def State.modContext (s : State) (n : SiteId) (f : Context → Context) : State :=
  { s with contexts := modAt s.contexts n f }

def State.modBay (s : State) (b : BayId) (f : Bay → Bay) : State :=
  { s with link := { s.link with bays := modAt s.link.bays b f } }

def State.modPath (s : State) (p : PathId) (f : PathEntry → PathEntry) : State := { s with paths := modAt s.paths p f }

def State.setHolder (s : State) (r : RowId) (h : RowHolder) : State :=
  { s with arbiter := { s.arbiter with holders := setAt s.arbiter.holders r h } }

def State.setRdy (s : State) (n : SiteId) (level : Bool) : State := { s with rdy := setAt s.rdy n level }

def State.setPlan (s : State) (n : SiteId) (p : Option Plan) : State := { s with plans := setAt s.plans n p }

/-- The site of a site lane; `none` for the service lane (R37). -/
def laneSite (n : LaneId) : Option SiteId := if h : n.val < 8 then some ⟨n.val, h⟩ else none

/-- RDY of a lane's site driven low; the service lane has no RDY line (R108). -/
def State.dropLaneRdy (s : State) (n : LaneId) : State :=
  match laneSite n with
  | some site => s.setRdy site false
  | none => s

/-! ## Sets in ascending order, without repeats -/

/-- A set of numbers below `k` with one more member. -/
def insertAsc (x : Fin k) : List (Fin k) → List (Fin k)
  | [] => [x]
  | y :: ys => if x < y then x :: y :: ys else if x = y then y :: ys else y :: insertAsc x ys

/-- A set of numbers below `k` with more members. -/
def insertAll (xs : List (Fin k)) (set : List (Fin k)) : List (Fin k) := xs.foldl (fun acc x => insertAsc x acc) set

/-- The members of a list, as a set in ascending order. -/
def ascending (xs : List (Fin k)) : List (Fin k) := insertAll xs []

/-- A set of numbers with `xs` taken out. -/
def removeAll (xs : List (Fin k)) (set : List (Fin k)) : List (Fin k) := set.filter fun y => !xs.contains y

/-- The canonical form of a set: strictly ascending. -/
abbrev ascendingSet (set : List (Fin k)) : Prop := set.Pairwise (· < ·)

/-! ## Octets -/

/-- The octet at an offset of a structure in memory. -/
def byteAt (bytes : List Byte) (offset : Nat) : Byte := bytes.getD offset 0

/-- A 16-bit field, little-endian (section 0.5). -/
def le16 (bytes : List Byte) (offset : Nat) : BitVec 16 := byteAt bytes (offset + 1) ++ byteAt bytes offset

/-- A 32-bit field, little-endian. -/
def le32 (bytes : List Byte) (offset : Nat) : Word32 := le16 bytes (offset + 2) ++ le16 bytes offset

/-- A 64-bit field, little-endian. -/
def le64 (bytes : List Byte) (offset : Nat) : Addr := le32 bytes (offset + 4) ++ le32 bytes offset

/-- The low `n` octets of a number, least significant first. -/
def octets : Nat → Nat → List Byte
  | 0, _ => []
  | n + 1, x => BitVec.ofNat 8 x :: octets n (x / 256)

/-- A flag as the octet 0 or 1. -/
def octetOfBool (b : Bool) : Byte := if b then 1 else 0

/-- The alignment of R38, R39 and R43: the low 7 bits all zero. -/
def aligned128 (a : Addr) : Bool := a.toNat % 128 == 0

/-! ## Time (R1) -/

/-- The interval from a timestamp to now, modulo 2^32. -/
def State.since (s : State) (start : Time) : Nat := (s.now - start).toNat

/-- A timer that started at `start` has reached its limit. -/
def State.reached (s : State) (start : Time) (limit : Nat) : Bool := decide (limit ≤ s.since start)

/-- A timer has run its length. -/
def State.ran (s : State) (t : Timer) : Bool := s.reached t.start t.length

/-- A timer that starts now. -/
def State.timer (s : State) (length : Nat) : Timer := { start := s.now, length := length }

/-! ## Memory accesses (R54) -/

/-- The next access, issued now. -/
def State.newAccess (s : State) (req : MemReq) : MemAccess := { tag := s.nextTag, issued := s.now, req := req }

/-- The tag of an issued access is not given out again. -/
def State.tagTaken (s : State) : State := { s with nextTag := s.nextTag + 1 }

/-- The completion named by `tag` is that of the access in flight; any other completion is discarded (R54, R176). -/
def completes (access : Option MemAccess) (tag : Nat) : Bool :=
  match access with
  | some a => a.tag == tag
  | none => false

/-- R54: an access that has had no completion for 50,000 µs. -/
def State.timedOut (s : State) (access : Option MemAccess) (tag : Nat) : Bool :=
  match access with
  | some a => a.tag == tag && s.reached a.issued Config.memoryTimeout
  | none => false

/-- The configuration block's address (R168). -/
def State.configBase (s : State) : Addr := s.host.configHi ++ s.host.configLo

/-- R172: the device is ENABLED. -/
def State.isEnabled (s : State) : Bool := s.host.device == .enabled

/-- The device states in which bay events are reported and polls are made (R160, R162). -/
def State.isOperating (s : State) : Bool :=
  s.host.device == .enabled || s.host.device == .parking || s.host.device == .disabling

end Sys2Proof.Machine
end

