-- ==== Sys2Proof/Decode.lean ====
section
/-! DEFINITION. Decoding: no row of the command table has bits of its own, so no word spells a command; and the commands that the
writes of the register window are (R168, R169, R180, Tables 12-12 and 12-13). -/

namespace Sys2Proof

/-- No row of spec/opcode_table.json gives bits: a word spells no command (log 33). -/
def decodeTableWord (_nbits _w : Nat) : Option Instr := none

/-! ## The register window -/

/-- Table 12-13: the command that a code and an argument name. -/
def commandOfCode (code : BitVec 8) (argument : BitVec 16) : Instr :=
  if code = 0x01 then .enable
  else if code = 0x02 then .disable
  else if code = 0x03 then .parkAll
  else if code = 0x04 then .resetDevice
  else if code = 0x10 then .laneSkip argument
  else if code = 0x11 then .laneReset argument
  else if code = 0x12 then .laneResume argument
  else if code = 0x13 then .laneStart argument
  else if code = 0x14 then .strobe argument
  else .unknownCommand code argument

/-- The bytes of a write that the access names; R180: the bytes of CONTROL that are not written are taken as 0. -/
def writtenByte (bytes : BitVec 4) (value : Word32) (i : Nat) : Byte := if bytes.getLsbD i then value.extractLsb' (8 * i) 8 else 0

/-- R169, Table 12-12: a write to CONTROL is one command: its code in bits 7–0 and its argument in bits 31–16. -/
def commandOfControl (bytes : BitVec 4) (value : Word32) : Instr :=
  commandOfCode (writtenByte bytes value 0) (writtenByte bytes value 3 ++ writtenByte bytes value 2)

/-- R168: the command that a write to the register at an offset is. -/
def commandOfWrite (offset : Nat) (bytes : BitVec 4) (value : Word32) : Option Instr :=
  if offset = 0x00 then some (.registerWrite .ident bytes value)
  else if offset = 0x04 then some (.registerWrite .status bytes value)
  else if offset = 0x08 then some (commandOfControl bytes value)
  else if offset = 0x0C then some (.configAddressWrite false bytes value)
  else if offset = 0x10 then some (.configAddressWrite true bytes value)
  else if offset = 0x14 then some (.registerWrite .cause bytes value)
  else if offset = 0x18 then some (.causeEnableWrite bytes value)
  else none

/-- R168: of the reads of the window, that of CAUSE alone is a command: the others change nothing. -/
def commandOfRead (offset : Nat) (bytes : BitVec 4) : Option Instr := if offset = 0x14 then some (.causeRead bytes) else none

end Sys2Proof
end

