-- ==== Sys2Proof/Machine/Flags.lean ====
section
/-! DEFINITION. The causes, the interrupt line, the registers the host reads, and the result flags (R116, R168, R174, Tables 12-10 and 12-12). -/

namespace Sys2Proof.Machine

/-! ## Causes (Table 12-12) -/

def causeNotify : BitVec 7 := 0x01
def causeHalt : BitVec 7 := 0x02
def causeBay : BitVec 7 := 0x04
def causeWear : BitVec 7 := 0x08
def causeMemory : BitVec 7 := 0x10
def causeEnabled : BitVec 7 := 0x20
def causeParked : BitVec 7 := 0x40

/-- R174: causes are set at their events whatever CAUSE_ENABLE holds; a set bit stays set. -/
def State.raise (s : State) (causes : BitVec 7) : State :=
  { s with host := { s.host with cause := s.host.cause ||| causes } }

/-- The MEMORY cause of a failed access, if it failed. -/
def State.raiseMemoryUnless (s : State) (ok : Bool) : State := if ok then s else s.raise causeMemory

/-- R174: INT is asserted while any bit set in CAUSE is also set in CAUSE_ENABLE. -/
def State.interrupt (s : State) : Bool := s.host.cause &&& s.host.causeEnable != 0

/-! ## The registers (R168, Table 12-12) -/

def DeviceState.code : DeviceState → BitVec 3
  | .disabled => 0
  | .enabling => 1
  | .enabled => 2
  | .parking => 3
  | .disabling => 4

def EnableFailure.code : EnableFailure → BitVec 4
  | .none => 0
  | .badVersion => 1
  | .badMap => 2
  | .badRow => 3
  | .badType => 4
  | .noBays => 5
  | .badLane => 6
  | .memory => 7
  | .wearArea => 8

/-- A mask with bit `i` set where `p i` holds. -/
def maskOf (k : Nat) (p : Fin k → Bool) : BitVec k := BitVec.ofNat k ((List.finRange k).foldl (fun m i => m + if p i then 2 ^ i.val else 0) 0)

/-- R168: the ONLINE bay mask follows the bay states at every moment. -/
def State.onlineMask (s : State) : BitVec 8 := maskOf 8 fun b => s.link.bays[b].state == .online

/-- R168: the HALTED lane mask follows the lane states at every moment. -/
def State.haltedMask (s : State) : BitVec 9 := maskOf 9 fun n => s.lanes[n].state == .halted

def State.identRegister : Word32 := (0 : BitVec 8) ++ Config.siliconRevision ++ (0x0816 : BitVec 16)

def State.statusRegister (s : State) : Word32 :=
  (0 : BitVec 7) ++ s.haltedMask ++ s.onlineMask ++ s.host.failure.code ++ BitVec.ofBool s.host.refused ++ s.host.device.code

def State.causeRegister (s : State) : Word32 := s.host.cause.setWidth 32

def State.causeEnableRegister (s : State) : Word32 := s.host.causeEnable.setWidth 32

/-- R168: what a read of the register at an offset returns; `none` outside the window. The side effect of a read of CAUSE
is the command CAUSE_READ. -/
def State.readRegister (s : State) (offset : Nat) : Option Word32 :=
  if offset = 0x00 then some State.identRegister
  else if offset = 0x04 then some s.statusRegister
  else if offset = 0x08 then some 0
  else if offset = 0x0C then some s.host.configLo
  else if offset = 0x10 then some s.host.configHi
  else if offset = 0x14 then some s.causeRegister
  else if offset = 0x18 then some s.causeEnableRegister
  else none

/-- The bits of the bytes that an access names. -/
def byteMask (bytes : BitVec 4) : Word32 :=
  (if bytes.getLsbD 3 then 0xFF#8 else 0#8) ++ (if bytes.getLsbD 2 then 0xFF#8 else 0#8) ++
    (if bytes.getLsbD 1 then 0xFF#8 else 0#8) ++ (if bytes.getLsbD 0 then 0xFF#8 else 0#8)

/-- R180: a write of fewer than 4 bytes; the bytes not written keep their old value. -/
def mergeBytes (old : Word32) (bytes : BitVec 4) (value : Word32) : Word32 :=
  (value &&& byteMask bytes) ||| (old &&& ~~~byteMask bytes)

/-! ## Commands accepted and refused (R169) -/

/-- A refused command or write sets the refused flag. -/
def State.refuse (s : State) : State := { s with host := { s.host with refused := true } }

/-- Each accepted command clears the flag. -/
def State.accept (s : State) : State := { s with host := { s.host with refused := false } }

/-! ## Result flags (R116, Table 12-10) -/

/-- The result flags octet: bit 0 WORN, bit 1 HOT, bit 2 MISSED, bit 3 SUSPECT. -/
def resultFlags (worn hot missed suspect : Bool) : Byte :=
  (0 : BitVec 4) ++ BitVec.ofBool suspect ++ BitVec.ofBool missed ++ BitVec.ofBool hot ++ BitVec.ofBool worn

end Sys2Proof.Machine
end

