-- ==== Sys2Proof/Machine/Operands.lean ====
section
/-! DEFINITION. The formats of chapter 12: how the part reads records, operands, path definition entries and the
configuration block, and how it writes results, states and status words. -/

namespace Sys2Proof.Machine

/-! ## Code tables -/

/-- Table 12-8. -/
def OrderKind.ofCode (code : Byte) : Option OrderKind :=
  if code = 1 then some .switch
  else if code = 2 then some .park
  else if code = 3 then some .verify
  else if code = 4 then some .scan
  else if code = 5 then some .define
  else if code = 6 then some .undefine
  else if code = 7 then some .wearSave
  else if code = 8 then some .wearLoad
  else if code = 9 then some .wearClear
  else none

/-- R40: the kinds a site lane accepts; the service lane accepts the others. -/
def OrderKind.forSite : OrderKind → Bool
  | .switch | .park | .verify | .scan => true
  | .define | .undefine | .wearSave | .wearLoad | .wearClear => false

/-- The hot policy codes of Table 12-9. -/
def HotPolicy.ofCode (code : Byte) : Option HotPolicy :=
  if code = 0 then some .allow else if code = 1 then some .wait else if code = 2 then some .refuse else none

/-- The advance modes of a scan (R128). -/
inductive AdvanceMode where
  | dwell | strict | lenient
deriving DecidableEq, Repr

/-- The advance mode codes of Table 12-9. -/
def AdvanceMode.ofCode (code : Byte) : Option AdvanceMode :=
  if code = 0 then some .dwell else if code = 1 then some .strict else if code = 2 then some .lenient else none

/-- Table 12-15. -/
def Code.toByte : Code → Byte
  | .ok => 0
  | .badKind => 1
  | .badOperand => 2
  | .pathUndefined => 3
  | .pathNotOwned => 4
  | .pathBusy => 5
  | .rowConflict => 6
  | .rowBusy => 7
  | .relayRetired => 8
  | .overBudget => 9
  | .bayUnavailable => 10
  | .hotRefused => 11
  | .hotTimeout => 12
  | .bayFault => 13
  | .bayHeld => 14
  | .senseMismatch => 15
  | .stepTimeout => 16
  | .scanRange => 17
  | .aborted => 18
  | .memory => 19

/-- R50: OK gives DONE, an abort gives ABORTED, any other code gives FAILED. -/
def Code.final : Code → FinalState
  | .ok => .done
  | .aborted => .aborted
  | _ => .failed

/-- R39: the record's state byte. -/
def FinalState.toByte : FinalState → Byte
  | .done => 3
  | .failed => 4
  | .aborted => 5

/-- R39: the code that makes a record armed. -/
def stateArmed : Byte := 1

/-- R39: the code that the lane writes when it has started the order. -/
def stateTaken : Byte := 2

/-! ## Records (Table 12-7) -/

def recordState (bytes : List Byte) : Byte := byteAt bytes 0
def recordKind (bytes : List Byte) : Byte := byteAt bytes 1
def recordFlags (bytes : List Byte) : BitVec 16 := le16 bytes 2
def recordTag (bytes : List Byte) : Word32 := le32 bytes 4
def recordLink (bytes : List Byte) : Addr := le64 bytes 8
def recordOperands (bytes : List Byte) : List Byte := (bytes.drop 16).take 48

def flagNotify (flags : BitVec 16) : Bool := flags.getLsbD 0
def flagContinue (flags : BitVec 16) : Bool := flags.getLsbD 1
def flagVerify (flags : BitVec 16) : Bool := flags.getLsbD 2
def flagReady (flags : BitVec 16) : Bool := flags.getLsbD 3

/-- The flags of the lane's held record. -/
def Lane.flags (l : Lane) : BitVec 16 :=
  match l.held with
  | some h => recordFlags h.bytes
  | none => 0

/-- The address of the lane's held record. -/
def Lane.record (l : Lane) : Addr :=
  match l.held with
  | some h => h.addr
  | none => 0

/-! ## Operands (Table 12-9) -/

/-- The operands of a SWITCH. Only the first count ids of each list are read. -/
structure SwitchOperands where
  disconnectCount : Nat
  connectCount : Nat
  budget : Nat
  disconnect : List PathId
  connect : List PathId
deriving DecidableEq, Repr

/-- `count` path ids, one octet each. -/
def pathIds (bytes : List Byte) (offset count : Nat) : List PathId :=
  (List.range count).map fun i => (byteAt bytes (offset + i)).toFin

def switchOperands (ops : List Byte) : SwitchOperands :=
  let d := (byteAt ops 0).toNat
  let c := (byteAt ops 1).toNat
  { disconnectCount := d, connectCount := c, budget := (le32 ops 4).toNat,
    disconnect := pathIds ops 8 d, connect := pathIds ops 16 c }

/-- The operands of a SCAN as they stand in the record. -/
structure ScanOperands where
  row : Nat
  mode : Byte
  policy : Byte
  guard : Option PathId
  base : Nat
  count : Nat
  stride : Int
  settle : Nat
  dwell : Nat
  stepWait : Nat
deriving DecidableEq, Repr

def scanOperands (ops : List Byte) : ScanOperands :=
  { row := (byteAt ops 0).toNat, mode := byteAt ops 1, policy := byteAt ops 2,
    guard := if byteAt ops 3 = 0 then none else some (byteAt ops 4).toFin,
    base := (le16 ops 6).toNat, count := (le16 ops 8).toNat, stride := (le16 ops 10).toInt,
    settle := (le16 ops 12).toNat, dwell := (le32 ops 16).toNat,
    -- R128: a step-wait limit of 0 is taken as 1
    stepWait := if le32 ops 20 = 0 then 1 else (le32 ops 20).toNat }

/-- R128: every operand is in its range. -/
def ScanOperands.inRange (o : ScanOperands) : Bool :=
  decide (o.row ≤ 15) && decide (o.base ≤ 511) && decide (1 ≤ o.count) && decide (o.count ≤ 512) &&
    decide (-64 ≤ o.stride) && decide (o.stride ≤ 64) && (AdvanceMode.ofCode o.mode).isSome && (HotPolicy.ofCode o.policy).isSome

/-- R129: column `i` of the sequence, in signed arithmetic. -/
def ScanOperands.columnInt (o : ScanOperands) (i : Nat) : Int := (o.base : Int) + (i : Int) * o.stride

/-- Column `i` of the sequence as a column number; R129's check 2 has found it in 0–511. -/
def ScanOperands.column (o : ScanOperands) (i : Nat) : ColumnId := Fin.ofNat 512 (o.columnInt i).toNat

/-- The scan row; R128 has found it in 0–15. -/
def ScanOperands.rowId (o : ScanOperands) : RowId := Fin.ofNat 16 o.row

/-- The scan's hot policy (R119). -/
def ScanOperands.hotPolicy (o : ScanOperands) : HotPolicy := (HotPolicy.ofCode o.policy).getD .allow

/-- The scan's advance mode. -/
def ScanOperands.advance (o : ScanOperands) : AdvanceMode := (AdvanceMode.ofCode o.mode).getD .dwell

/-- The operands of the context's order, read as those of a SCAN. -/
def Context.scanOps (c : Context) : ScanOperands :=
  match c.order with
  | some o => scanOperands o.operands
  | none => scanOperands []

/-! ## Path definition entries (Table 12-11) -/

/-- A path definition entry as it stands in the list. -/
structure DefinitionEntry where
  id : Nat
  site : Nat
  policy : Byte
  count : Nat
  extraSettle : BitVec 16
  words : List Nat
deriving DecidableEq, Repr

/-- The crosspoint words are those below the count; the words past it are ignored. -/
def definitionEntry (bytes : List Byte) : DefinitionEntry :=
  let count := (byteAt bytes 4).toNat
  { id := (le16 bytes 0).toNat, site := (byteAt bytes 2).toNat, policy := byteAt bytes 3, count := count,
    extraSettle := le16 bytes 6, words := (List.range count).map fun i => (le16 bytes (8 + 2 * i)).toNat }

/-- The row and column of a crosspoint word: row × 512 + column. -/
def crosspointOfWord (w : Nat) : RowId × ColumnId := (Fin.ofNat 16 (w / 512), Fin.ofNat 512 w)

/-! ## The configuration block (Tables 12-1 to 12-4) -/

def headerOffset : Nat := 0x000
def laneDescriptorOffset (n : LaneId) : Nat := 0x040 + 32 * n.val
def laneStatusOffset (n : LaneId) : Nat := 0x160 + 16 * n.val
def bayStatusOffset (b : BayId) : Nat := 0x1F0 + 8 * b.val
def rowEntryOffset (r : RowId) : Nat := 0x230 + 4 * r.val
def typeEntryOffset (t : TypeId) : Nat := 0x270 + 16 * t.val
def bayEntryOffset (b : BayId) : Nat := 0x2B0 + 8 * b.val
def hotWeightOffset (c : Fin 4) : Nat := 0x2F0 + c.val
def columnMapOffset (c : ColumnId) : Nat := 0x300 + c.val

def configVersion (bytes : List Byte) : BitVec 16 := le16 bytes 0
def configExpected (bytes : List Byte) : BitVec 8 := byteAt bytes 2
def configGap (bytes : List Byte) : BitVec 16 := le16 bytes 4
def configWearArea (bytes : List Byte) : Addr := le64 bytes 8

/-- R155: a rate ceiling code above 2 is taken as 2. -/
def configCeiling (bytes : List Byte) : Fin 3 :=
  if byteAt bytes 3 = 0 then 0 else if byteAt bytes 3 = 1 then 1 else 2

/-- An owner or a column map entry: a site 0–7, or 0xFF for none. -/
def siteOrNone (code : Byte) : Option SiteId := if h : code.toNat < 8 then some ⟨code.toNat, h⟩ else none

/-- Checks 4 and 5 of R170: neither 0–7 nor 0xFF. -/
def badSiteCode (code : Byte) : Bool := !(decide (code.toNat < 8) || code == 0xFF)

/-- Bay b is expected when bit b of the mask is set (R2). -/
def expectedBay (mask : BitVec 8) (b : BayId) : Bool := mask.getLsbD b.val

/-- R170: the checks of the configuration block, in order; the first that fails gives its code. -/
def configFailure (bytes : List Byte) : Option EnableFailure :=
  if configVersion bytes ≠ 1 then some .badVersion
  else if configExpected bytes = 0 then some .noBays
  else if (List.finRange 8).any (fun b => expectedBay (configExpected bytes) b &&
      (decide (3 < (byteAt bytes (bayEntryOffset b + 1)).toNat) || decide (3 < (byteAt bytes (bayEntryOffset b + 2)).toNat))) then
    some .badType
  else if (List.finRange 16).any (fun r => badSiteCode (byteAt bytes (rowEntryOffset r)) ||
      decide (3 < (byteAt bytes (rowEntryOffset r + 1)).toNat)) then some .badRow
  else if (List.finRange 512).any (fun c => badSiteCode (byteAt bytes (columnMapOffset c))) then some .badMap
  else if (List.finRange 9).any (fun n => !aligned128 (le64 bytes (laneDescriptorOffset n))) then some .badLane
  else none

/-- R2: a wave limit of 0 is taken as 1, and one above 64 as 64. -/
def clampWaveLimit (w : Byte) : Byte := if w = 0 then 1 else if 64 < w.toNat then 64 else w

/-- R2: a reply extension above 7 is taken as 7. -/
def clampExtension (e : Byte) : Byte := if 7 < e.toNat then 7 else e

/-- R118: a hot weight of 0 is taken as 1. -/
def clampHotWeight (w : Byte) : Byte := if w = 0 then 1 else w

/-- R2: the entry of an expected bay; the entries of bays that are not expected are not used. -/
def bayConfigOf (bytes : List Byte) (b : BayId) : BayConfig :=
  if expectedBay (configExpected bytes) b then
    { model := byteAt bytes (bayEntryOffset b),
      crosspointType := Fin.ofNat 4 (byteAt bytes (bayEntryOffset b + 1)).toNat,
      isolationType := Fin.ofNat 4 (byteAt bytes (bayEntryOffset b + 2)).toNat,
      waveLimit := clampWaveLimit (byteAt bytes (bayEntryOffset b + 3)),
      extension := clampExtension (byteAt bytes (bayEntryOffset b + 4)) }
  else .reset

def rowConfigOf (bytes : List Byte) (r : RowId) : RowConfig :=
  { owner := siteOrNone (byteAt bytes (rowEntryOffset r)),
    currentClass := Fin.ofNat 4 (byteAt bytes (rowEntryOffset r + 1)).toNat,
    liveEnable := byteAt bytes (rowEntryOffset r + 2) != 0 }

def relayTimesOf (bytes : List Byte) (t : TypeId) : RelayTimes :=
  { operate := le16 bytes (typeEntryOffset t), release := le16 bytes (typeEntryOffset t + 2),
    bounce := le16 bytes (typeEntryOffset t + 4) }

def thresholdsOf (bytes : List Byte) (t : TypeId) : Thresholds :=
  { warn := le32 bytes (typeEntryOffset t + 8), retire := le32 bytes (typeEntryOffset t + 12) }

/-- R38: the descriptor of a lane. The service lane's mode is taken as FREE, and so is a mode code that is no mode code. -/
def laneDescriptorOf (bytes : List Byte) (n : LaneId) : LaneDescriptor :=
  let o := laneDescriptorOffset n
  { head := le64 bytes o, mode := if n ≠ serviceLane ∧ byteAt bytes (o + 8) = 1 then .strobed else .free,
    offsetDelay := le16 bytes (o + 10), pollInterval := le16 bytes (o + 12), cadence := le32 bytes (o + 16),
    claimWait := le32 bytes (o + 20), hotWait := le32 bytes (o + 24) }

/-- The copies of R9 and R118. -/
def configCopiesOf (bytes : List Byte) : ConfigCopies :=
  { expected := configExpected bytes, bays := Vector.ofFn (bayConfigOf bytes), rows := Vector.ofFn (rowConfigOf bytes),
    columns := Vector.ofFn fun c => siteOrNone (byteAt bytes (columnMapOffset c)),
    types := Vector.ofFn (relayTimesOf bytes), gap := configGap bytes,
    hotWeights := Vector.ofFn fun c => clampHotWeight (byteAt bytes (hotWeightOffset c)) }

/-! ## Status words (Tables 12-5 and 12-6) -/

def LaneState.code : LaneState → Byte
  | .disabled => 0
  | .idle => 1
  | .fetching => 2
  | .offset => 3
  | .running => 4
  | .halted => 5

def HaltReason.code : HaltReason → Byte
  | .orderFailed => 1
  | .memoryRead => 2
  | .memoryWrite => 3
  | .badLink => 4
  | .parked => 5

def Cursor.form : Cursor → Byte
  | .empty => 0
  | .next _ => 1
  | .atTail _ => 2

/-- The cursor address, 0 for EMPTY. -/
def Cursor.addr : Cursor → Addr
  | .empty => 0
  | .next y => y
  | .atTail x => x

/-- The lane status word (R53, Table 12-5). -/
def Lane.statusWord (l : Lane) : List Byte :=
  [l.state.code, (match l.halt with | some h => h.code | none => 0), l.cursor.form, 0] ++ octets 2 l.missed ++ octets 2 0 ++
    octets 8 l.cursor.addr.toNat

/-- Code 1 is reserved for PROBING, which no word carries (Table 12-6). -/
def BayState.code : BayState → Byte
  | .absent => 0
  | .probing => 1
  | .online => 2
  | .held => 3
  | .faulted => 4

/-- The bay status word (R160, Table 12-6). -/
def Bay.statusWord (b : Bay) (rate : Option (Fin 3)) : List Byte :=
  [b.state.code, b.reasons.setWidth 8, (match rate with | some r => BitVec.ofNat 8 r.val | none => 0xFF), b.model,
    octetOfBool b.mismatch] ++ octets 3 0

/-! ## Results (Table 12-10) -/

/-- The result area of a record. -/
structure Result where
  code : Byte
  flags : Byte
  failing : Nat
  mismatchCount : Nat
  snapshot : Nat
  started : Time
  ended : Time
  planned : Nat
  measured : Nat
  waves : Nat
  closed : Nat
  opened : Nat
  hotOps : Nat
  scanSteps : Nat
  scanTimeouts : Nat
  mismatches : List Mismatch
deriving DecidableEq, Repr

/-- The no-index value (Table 12-10). -/
def noIndex : Nat := 0xFFFF

/-- A mismatch entry: the relay number, then bit 0 the expected state and bit 1 the sensed state. -/
def Mismatch.octets (m : Mismatch) : List Byte :=
  Machine.octets 2 m.relay.val ++ [(0 : BitVec 6) ++ BitVec.ofBool m.sensed ++ BitVec.ofBool m.expected]

/-- The eight mismatch entries; the unused ones are 0 (R148). -/
def mismatchOctets (ms : List Mismatch) : List Byte :=
  ((List.range 8).map fun i =>
    match ms[i]? with
    | some m => m.octets
    | none => Machine.octets 3 0).flatten

/-- The result area as its 64 octets (Table 12-10). -/
def Result.octets (r : Result) : List Byte :=
  [r.code, r.flags] ++ Machine.octets 2 r.failing ++ Machine.octets 1 r.mismatchCount ++ Machine.octets 1 0 ++
    Machine.octets 2 r.snapshot ++ Machine.octets 4 r.started.toNat ++ Machine.octets 4 r.ended.toNat ++
    Machine.octets 4 r.planned ++ Machine.octets 4 r.measured ++ Machine.octets 2 r.waves ++ Machine.octets 2 r.closed ++
    Machine.octets 2 r.opened ++ Machine.octets 2 r.hotOps ++ Machine.octets 2 r.scanSteps ++
    Machine.octets 2 r.scanTimeouts ++ Machine.octets 4 0 ++ mismatchOctets r.mismatches

/-- R49 step 3 and R179: the result at order start carries the start timestamp, the snapshot and the MISSED flag, with
every other field 0. -/
def startResult (started : Time) (snapshot : Nat) : Result :=
  { code := 0, flags := resultFlags false false (snapshot != 0) false, failing := 0, mismatchCount := 0,
    snapshot := snapshot, started := started, ended := 0, planned := 0, measured := 0, waves := 0, closed := 0, opened := 0,
    hotOps := 0, scanSteps := 0, scanTimeouts := 0, mismatches := [] }

/-- R51 and R94: the result at an order's end. The measured time is (end − start) mod 2^32. -/
def endResult (code : Code) (acc : Accumulators) (steps timeouts snapshot : Nat) (started ended : Time) : Result :=
  { code := code.toByte, flags := resultFlags acc.worn acc.hot (snapshot != 0) acc.suspect,
    failing := acc.failing.getD noIndex, mismatchCount := acc.mismatchCount, snapshot := snapshot, started := started,
    ended := ended, planned := acc.planned, measured := (ended - started).toNat, waves := acc.waves, closed := acc.closed,
    opened := acc.opened, hotOps := acc.hotOps, scanSteps := steps, scanTimeouts := timeouts, mismatches := acc.mismatches }

/-- The result area of a record: offset 64 (Table 12-7). -/
def resultAddr (record : Addr) : Addr := record + 64

/-- The link field of a record: offset 8 (Table 12-7). -/
def linkAddr (record : Addr) : Addr := record + 8

/-! ## The wear area (section 12.4) -/

/-- The address of transfer `j`. -/
def wearTransferAddr (area : Addr) (j : Nat) : Addr := area + BitVec.ofNat 64 (64 * j)

end Sys2Proof.Machine
end

