-- ==== Sys2Proof/Machine/Relays.lean ====
section
/-! DEFINITION. Relay numbers (R5–R7), the crosspoint image (R10–R15), wear counters and marks (R143–R148). -/

namespace Sys2Proof.Machine

/-! ## Relay numbers (R4–R7) -/

/-- R4: column c lies in bay c ÷ 64. -/
def columnBay (c : ColumnId) : BayId := ⟨c.val / 64, by omega⟩

/-- R6: the crosspoint of row r and column c. -/
def crosspoint (r : RowId) (c : ColumnId) : RelayNo := ⟨c.val / 64 * 1040 + r.val * 64 + c.val % 64, by omega⟩

/-- R6: the isolation relay iso(b, r). -/
def isolation (b : BayId) (r : RowId) : RelayNo := ⟨b.val * 1040 + 1024 + r.val, by omega⟩

/-- R6: bay = number ÷ 1,040. -/
def relayBay (n : RelayNo) : BayId := ⟨n.val / 1040, by omega⟩

/-- R6: index = number mod 1,040. -/
def relayIndex (n : RelayNo) : Nat := n.val % 1040

/-- R5: isolation relays have the indexes 1024–1039. -/
def isIsolation (n : RelayNo) : Bool := decide (1024 ≤ relayIndex n)

/-- R6: row = index ÷ 64 for a crosspoint, index − 1024 for an isolation relay. -/
def relayRow (n : RelayNo) : RowId :=
  if h : relayIndex n < 1024 then ⟨relayIndex n / 64, by omega⟩
  else ⟨relayIndex n - 1024, by unfold relayIndex at *; omega⟩

/-- R7: relay index i lies in coil group i ÷ 8. -/
def relayGroup (n : RelayNo) : Nat := relayIndex n / 8

/-- R7: relay 8 × g + k of bay b, where the bay has such a relay. -/
def groupRelay (b : BayId) (g k : Nat) : Option RelayNo :=
  if h : 8 * g + k < 1040 then some ⟨b.val * 1040 + (8 * g + k), by omega⟩ else none

/-- R8: the type of a relay is its bay's crosspoint type or its bay's isolation type. -/
def State.relayType (s : State) (n : RelayNo) : TypeId :=
  let b := s.cfg.bays[relayBay n]
  if isIsolation n then b.isolationType else b.crosspointType

def State.relayTimes (s : State) (n : RelayNo) : RelayTimes := s.cfg.types[s.relayType n]

/-- The largest of a list of times, 0 for none. -/
def largest (xs : List Nat) : Nat := xs.foldl max 0

/-- R89: the largest, over the types present among the openings, of that type's release time plus its bounce time. -/
def State.breakHold (s : State) (relays : List RelayNo) : Nat :=
  largest (relays.map fun n => (s.relayTimes n).release.toNat + (s.relayTimes n).bounce.toNat)

/-- R89: the largest operate time among the types present in a wave. -/
def State.waveOperate (s : State) (relays : List RelayNo) : Nat := largest (relays.map fun n => (s.relayTimes n).operate.toNat)

/-- R89: the largest bounce time among the types present in a bay's closings. -/
def State.makeBounce (s : State) (relays : List RelayNo) : Nat := largest (relays.map fun n => (s.relayTimes n).bounce.toNat)

/-- R2: the wave limit of a bay as the part takes it, 1–64. -/
def State.waveLimit (s : State) (b : BayId) : Nat := (clampWaveLimit s.cfg.bays[b].waveLimit).toNat

/-! ## The image (R10–R15) -/

def State.isClosed (s : State) (n : RelayNo) : Bool := s.image.closed.contains n

/-- The image with `relays` CLOSED. -/
def State.closeRelays (s : State) (relays : List RelayNo) : State :=
  { s with image := { s.image with closed := insertAll relays s.image.closed } }

/-- The image with `relays` OPEN. -/
def State.openRelays (s : State) (relays : List RelayNo) : State :=
  { s with image := { s.image with closed := removeAll relays s.image.closed } }

/-- The relays of a set in one bay. -/
def inBay (b : BayId) (set : List RelayNo) : List RelayNo := set.filter fun n => relayBay n == b

/-- R11: each relay the wave changes takes its new state. A wave names relays of its own bay alone. -/
def State.applyWave (s : State) (w : Wave) : State :=
  if w.closing then s.closeRelays (inBay w.bay w.relays) else s.openRelays (inBay w.bay w.relays)

/-- R13: every relay of the bay OPEN and its busy window CLEAR. -/
def State.dropImage (s : State) (b : BayId) : State :=
  { s with image := { closed := s.image.closed.filter fun n => relayBay n != b, windows := setAt s.image.windows b none } }

/-- R10: a bay is busy while (now − acknowledgement time) mod 2^32 is less than the hold length. -/
def State.bayBusy (s : State) (b : BayId) : Bool :=
  match s.image.windows[b] with
  | some w => decide (s.since w.acked < w.hold)
  | none => false

/-- R12: a closing wave sets its bay's window to (acknowledgement time, its largest operate time). -/
def State.setWindow (s : State) (w : Wave) : State :=
  if w.closing then
    { s with image := { s.image with windows := setAt s.image.windows w.bay (some { acked := s.now, hold := s.waveOperate w.relays }) } }
  else s

/-! ## Live rows (R117) -/

/-- R117: a row is live while its live enable is non-zero and its LIVE line is asserted. -/
def State.rowLive (s : State) (r : RowId) : Bool := s.live.enable[r] && s.live.line[r]

/-- R120: a relay whose row is live is a hot relay. -/
def State.hotRelays (s : State) (relays : List RelayNo) : List RelayNo := relays.filter fun n => s.rowLive (relayRow n)

/-- R118: a row's hot weight is the weight of its current class. -/
def State.hotWeight (s : State) (r : RowId) : Nat := (s.cfg.hotWeights[s.cfg.rows[r].currentClass]).toNat

/-! ## Wear counters (R143, R144) -/

/-- The counter of a relay in a wear table. -/
def wearLookup (n : RelayNo) : List (RelayNo × Nat) → Nat
  | [] => 0
  | (m, c) :: rest => if m = n then c else wearLookup n rest

/-- The wear table with the counter of `n` set; a counter of 0 has no entry. -/
def wearInsert (n : RelayNo) (c : Nat) : List (RelayNo × Nat) → List (RelayNo × Nat)
  | [] => if c = 0 then [] else [(n, c)]
  | (m, d) :: rest =>
    if n < m then (if c = 0 then (m, d) :: rest else (n, c) :: (m, d) :: rest)
    else if n = m then (if c = 0 then rest else (n, c) :: rest)
    else (m, d) :: wearInsert n c rest

def State.wearOf (s : State) (n : RelayNo) : Nat := wearLookup n s.health.wear

def State.setWear (s : State) (n : RelayNo) (c : Nat) : State :=
  { s with health := { s.health with wear := wearInsert n c s.health.wear } }

/-- R144: a sum that would pass 4,294,967,295 takes 4,294,967,295. -/
def saturatingWear (counter weight : Nat) : Nat := min (counter + weight) Config.wearMax

/-- R144: the weight a wave's change of a relay adds. -/
def State.wearWeight (s : State) (w : Wave) (n : RelayNo) : Nat := if w.hot.contains n then s.hotWeight (relayRow n) else 1

/-! ## Marks (R145) -/

/-- The thresholds of a relay: those of its type (R8). A bay that is not expected has no entry in use (R2), so its relays have
none (DEDUCED, log 16). -/
def State.relayThresholds (s : State) (n : RelayNo) : Thresholds :=
  if expectedBay s.cfg.expected (relayBay n) then s.health.thresholds[s.relayType n] else .reset

/-- R145: WORN is set when the warn threshold is not 0 and the counter is at least the warn threshold. -/
def Thresholds.worn (t : Thresholds) (counter : Nat) : Bool := t.warn != 0 && decide (t.warn.toNat ≤ counter)

/-- R145: RETIRED is set when the retire threshold is not 0 and the counter is at least the retire threshold. -/
def Thresholds.retired (t : Thresholds) (counter : Nat) : Bool := t.retire != 0 && decide (t.retire.toNat ≤ counter)

/-- A mark set or cleared for one relay. -/
def markIf (set : Bool) (n : RelayNo) (marks : List RelayNo) : List RelayNo :=
  if set then insertAsc n marks else marks.filter fun m => m != n

/-- R145: the WORN and RETIRED marks of one relay brought up to date. -/
def State.updateMarks (s : State) (n : RelayNo) : State :=
  let t := s.relayThresholds n
  let c := s.wearOf n
  { s with health := { s.health with worn := markIf (t.worn c) n s.health.worn, retired := markIf (t.retired c) n s.health.retired } }

/-- R149: every WORN and RETIRED mark brought up to date. A relay whose counter is 0 carries neither. -/
def State.refreshMarks (s : State) : State :=
  { s with health := { s.health with
      worn := ascending ((s.health.wear.map Prod.fst).filter fun n => (s.relayThresholds n).worn (s.wearOf n)),
      retired := ascending ((s.health.wear.map Prod.fst).filter fun n => (s.relayThresholds n).retired (s.wearOf n)) } }

def State.isWorn (s : State) (n : RelayNo) : Bool := s.health.worn.contains n
def State.isRetired (s : State) (n : RelayNo) : Bool := s.health.retired.contains n
def State.isSuspect (s : State) (n : RelayNo) : Bool := s.health.suspect.contains n

/-- A counter set, with its marks (R145). -/
def State.putWear (s : State) (n : RelayNo) (c : Nat) : State := (s.setWear n c).updateMarks n

/-- R144: the wear of a wave's change of one relay. -/
def State.addWear (s : State) (w : Wave) (n : RelayNo) : State := s.putWear n (saturatingWear (s.wearOf n) (s.wearWeight w n))

/-- R144: the wear of every relay that the wave changes. -/
def State.addWaveWear (s : State) (w : Wave) : State := w.relays.foldl (fun t n => t.addWear w n) s

/-- R145: a relay crosses a threshold when its counter was below a non-zero threshold before the wave and is at or above it
after. -/
def State.crosses (s : State) (w : Wave) (n : RelayNo) : Bool :=
  let t := s.relayThresholds n
  let before := s.wearOf n
  let after := saturatingWear before (s.wearWeight w n)
  (t.worn after && !t.worn before) || (t.retired after && !t.retired before)

/-- The SUSPECT mark of a relay set or cleared (R147). -/
def State.setSuspect (s : State) (n : RelayNo) (set : Bool) : State :=
  { s with health := { s.health with suspect := markIf set n s.health.suspect } }

/-! ## The wear area (R149–R152) -/

/-- The relay whose counter stands at place `i` of transfer `j`. -/
def transferRelay (j i : Nat) : RelayNo := Fin.ofNat 8320 (16 * j + i)

/-- R149: the 64 octets of transfer `j`, with the counters as they stand. -/
def State.wearTransfer (s : State) (j : Nat) : List Byte :=
  ((List.range 16).map fun i => octets 4 (s.wearOf (transferRelay j i))).flatten

/-- R149, R151: the 16 counters of transfer `j` take the values read, and their marks are brought up to date. -/
def State.loadTransfer (s : State) (j : Nat) (bytes : List Byte) : State :=
  (List.range 16).foldl (fun t i => t.putWear (transferRelay j i) (le32 bytes (4 * i)).toNat) s

/-- R152: each counter of the run becomes 0, and its WORN, RETIRED and SUSPECT marks become clear. -/
def State.clearRun (s : State) (first count : Nat) : State :=
  let inRun : RelayNo → Bool := fun n => decide (first ≤ n.val) && decide (n.val < first + count)
  { s with health := { s.health with
      wear := s.health.wear.filter fun e => !inRun e.1, worn := s.health.worn.filter fun n => !inRun n,
      retired := s.health.retired.filter fun n => !inRun n, suspect := s.health.suspect.filter fun n => !inRun n } }

/-- R149: the counters all 0 and all marks clear, as after a reset. -/
def State.zeroWear (s : State) : State :=
  { s with health := { s.health with wear := [], worn := [], retired := [], suspect := [] } }

end Sys2Proof.Machine
end

