-- ==== Sys2Proof/Machine/Paths.lean ====
section
/-! DEFINITION. The path table (chapter 2): relay sets, DEFINE and UNDEFINE entries, validation, and the states that judgement
and bay drops give. -/

namespace Sys2Proof.Machine

/-! ## Relay sets (R21) -/

/-- A path holds a row in the row holder table (R63). -/
def State.pathHolds (s : State) (p : PathId) (r : RowId) : Bool := s.arbiter.holders[r] == .path p

/-- The crosspoints of a path, as relay numbers. -/
def State.pathCrosspoints (s : State) (p : PathId) : List RelayNo := s.paths[p].crosspoints.map fun x => crosspoint x.1 x.2

/-- The isolation relays that the crosspoints on rows satisfying `q` need. -/
def State.pathIsolations (s : State) (p : PathId) (q : RowId → Bool) : List RelayNo :=
  (s.paths[p].crosspoints.filter fun x => q x.1).map fun x => isolation (columnBay x.2) x.1

/-- R21: the relay set of a path on the rows it holds. -/
def State.relaySet (s : State) (p : PathId) : List RelayNo :=
  ascending (s.pathCrosspoints p ++ s.pathIsolations p (s.pathHolds p))

/-- R21, R80: the whole relay set of a path, as if every row of its row set were held. -/
def State.wholeRelaySet (s : State) (p : PathId) : List RelayNo :=
  ascending (s.pathCrosspoints p ++ s.pathIsolations p fun _ => true)

/-- R21: a relay is closed for a path when it is CLOSED in the image and the path holds the relay's row. -/
def State.closedFor (s : State) (p : PathId) (n : RelayNo) : Bool := s.isClosed n && s.pathHolds p (relayRow n)

/-- The rows that a path holds. -/
def State.rowsOf (s : State) (p : PathId) : List RowId := (List.finRange 16).filter (s.pathHolds p)

/-- A path has a crosspoint on row r in bay b. -/
def State.usesRowInBay (s : State) (p : PathId) (r : RowId) (b : BayId) : Bool :=
  s.paths[p].crosspoints.any fun x => x.1 == r && columnBay x.2 == b

/-- A path's relay set has a relay in bay b (R33, R112). -/
def State.relaySetInBay (s : State) (p : PathId) (b : BayId) : Bool := (s.relaySet p).any fun n => relayBay n == b

/-! ## DEFINE (R24, R25) -/

/-- No pair stands twice in a list. -/
def distinct {α : Type} [DecidableEq α] : List α → Bool
  | [] => true
  | x :: xs => !xs.contains x && distinct xs

/-- The distinct members of a list. -/
def dedup {α : Type} [DecidableEq α] : List α → List α
  | [] => []
  | x :: xs => if xs.contains x then dedup xs else x :: dedup xs

/-- R24: the checks of an entry against the configuration copies, in order; the first that fails refuses the entry. -/
def State.entryAccepted (s : State) (e : DefinitionEntry) : Bool :=
  let points := e.words.map crosspointOfWord
  -- 1 to 5
  decide (e.id ≤ 255) && decide (e.site ≤ 7) && (HotPolicy.ofCode e.policy).isSome && decide (1 ≤ e.count) &&
    decide (e.count ≤ 16) && e.words.all (fun w => decide (w < 8192)) &&
    -- 6: the column is mapped to the entry's site
    points.all (fun x => s.cfg.columns[x.2] == some (Fin.ofNat 8 e.site)) &&
    -- 7: the row is not dedicated to another site
    points.all (fun x => s.cfg.rows[x.1].owner == none || s.cfg.rows[x.1].owner == some (Fin.ofNat 8 e.site)) &&
    -- 8: the bay is expected
    points.all (fun x => expectedBay s.cfg.expected (columnBay x.2)) &&
    -- 9 and 10
    distinct points && decide ((dedup (points.map Prod.fst)).length ≤ 4)

/-- R20, R25: the entry as the path table stores it, IDLE, with its row set derived. -/
def storedEntry (e : DefinitionEntry) : PathEntry :=
  let points := e.words.map crosspointOfWord
  { state := .idle, site := Fin.ofNat 8 e.site, policy := (HotPolicy.ofCode e.policy).getD .allow,
    extraSettle := e.extraSettle, crosspoints := points, rowSet := ascending (points.map Prod.fst), prior := none }

/-- R25: the outcome of an entry: stored, or refused with a code. -/
def State.takeEntry (s : State) (e : DefinitionEntry) : State × Option Code :=
  if s.entryAccepted e then
    let p : PathId := Fin.ofNat 256 e.id
    match s.paths[p].state with
    | .undefined | .idle => (s.modPath p fun _ => storedEntry e, none)
    | .pending | .active | .broken => (s, some .pathBusy)
  else (s, some .badOperand)

/-! ## UNDEFINE (R26) -/

/-- R26: the ids from `first` on, in ascending order, up to the first busy one: the failing index, or none. -/
def State.undefineFrom (s : State) (first : Nat) : Nat → State × Option Nat
  | 0 => (s, none)
  | count + 1 =>
    let p : PathId := Fin.ofNat 256 first
    match s.paths[p].state with
    | .undefined => s.undefineFrom (first + 1) count
    | .idle => (s.modPath p fun _ => .reset).undefineFrom (first + 1) count
    | .pending | .active | .broken => (s, some first)

/-! ## Validation (R27, R28) -/

/-- R27: the checks of the ids, each at its position; the first that fails gives its code and failing index. -/
def State.checkIds (s : State) (site : SiteId) : List PathId → List (Nat × PathId) → Option (Code × Nat)
  | _, [] => none
  | seen, (i, p) :: rest =>
    if s.paths[p].state = .undefined then some (.pathUndefined, i)
    else if s.paths[p].site ≠ site then some (.pathNotOwned, i)
    else if seen.contains p then some (.badOperand, i)
    else s.checkIds site (p :: seen) rest

/-- Positions 0–7 for the disconnect list, 8–15 for the connect list (R27). -/
def listPositions (disconnect connect : List PathId) : List (Nat × PathId) :=
  disconnect.zipIdx.map (fun x => (x.2, x.1)) ++ connect.zipIdx.map fun x => (8 + x.2, x.1)

/-- R27: a path enters PENDING with its prior state. (A path of the lane's own site cannot be PENDING or UNDEFINED here; such an
entry is left as it is.) -/
def PathEntry.toPending (e : PathEntry) : PathEntry :=
  match e.state with
  | .idle => { e with state := .pending, prior := some .idle }
  | .active => { e with state := .pending, prior := some .active }
  | .broken => { e with state := .pending, prior := some .broken }
  | .undefined | .pending => e

def State.namePaths (s : State) (ids : List PathId) : State := ids.foldl (fun t p => t.modPath p PathEntry.toPending) s

/-- R28: every ACTIVE or BROKEN path of a site, in ascending id order. -/
def State.connectedPaths (s : State) (site : SiteId) : List PathId :=
  (List.finRange 256).filter fun p =>
    (s.paths[p].state == .active || s.paths[p].state == .broken) && s.paths[p].site == site

/-- The path's prior state is ACTIVE or BROKEN: as a disconnect path it gives relays and rows (R27). -/
def State.wasConnected (s : State) (p : PathId) : Bool :=
  s.paths[p].prior == some .active || s.paths[p].prior == some .broken

/-- The path's prior state is IDLE or BROKEN: as a connect path it takes relays (R27). -/
def State.wasOpen (s : State) (p : PathId) : Bool := s.paths[p].prior == some .idle || s.paths[p].prior == some .broken

/-! ## Judgement (R30, R31) -/

/-- Rows given up are released together, and a walk is owed after them (R32, R71). -/
def State.releaseRows (s : State) (rows : List RowId) : State :=
  match rows with
  | [] => s
  | _ => { s with arbiter := { s.arbiter with
             holders := mapAt s.arbiter.holders fun r h => if rows.contains r then .free else h, walkOwed := true } }

/-- R31: the state that the image and the rows held give a path, in any role. With no relay closed for it a path is IDLE, also where it
still holds a row to be handed over (R33, R111; the second row of R76 is read under them: DEDUCED, log 53). -/
def State.judgedState (s : State) (p : PathId) : PathState :=
  let set := s.relaySet p
  if !set.any (s.closedFor p) then .idle else if set.all (s.closedFor p) then .active else .broken

/-- R31: the named paths judged on the image and on the rows they hold, and the rows of those judged IDLE. -/
def State.judgePassed (s : State) (ids : List PathId) : State × List RowId :=
  (ids.foldl (fun t p => t.modPath p fun e => { e with state := s.judgedState p, prior := none }) s,
    (ids.filter fun p => s.judgedState p == .idle).flatMap s.rowsOf)

def PriorState.toState : PriorState → PathState
  | .idle => .idle
  | .active => .active
  | .broken => .broken

/-- R30: a path returns to its prior state. -/
def PathEntry.toPrior (e : PathEntry) : PathEntry :=
  match e.prior with
  | some prior => { e with state := prior.toState, prior := none }
  | none => e

/-- R30: the named paths return to their prior states, without a look at the image, also where a bay has dropped while the order waited
(DEDUCED, log 48); a path that was IDLE holds no rows again. -/
def State.judgeUnpassed (s : State) (ids : List PathId) : State × List RowId :=
  (ids.foldl (fun t p => t.modPath p PathEntry.toPrior) s,
    (ids.filter fun p => s.paths[p].prior == some .idle).flatMap s.rowsOf)

/-! ## Bay drops and PARK_ALL (R33, R34) -/

/-- R33: an ACTIVE path whose relay set had a relay in the dropped bay becomes BROKEN and keeps its rows. -/
def State.markBroken (s : State) (b : BayId) : State :=
  { s with paths := mapAt s.paths fun p e =>
      if e.state == .active && s.relaySetInBay p b then { e with state := .broken } else e }

/-- R34: every defined path becomes IDLE, whatever its state; UNDEFINED ids stay UNDEFINED. -/
def State.parkPaths (s : State) : State :=
  { s with paths := mapAt s.paths fun _ e =>
      match e.state with
      | .undefined => e
      | _ => { e with state := .idle, prior := none } }

end Sys2Proof.Machine
end

