-- ==== Sys2Proof/Machine/Arbiter.lean ====
section
/-! DEFINITION. The claim arbiter (chapter 4): claims, conflicts, grants, the waiting list, the reservation walk and handover. -/

namespace Sys2Proof.Machine

def State.rowFree (s : State) (r : RowId) : Bool := s.arbiter.holders[r] == .free

/-! ## Claims (R64–R66) -/

/-- R64: row r is to be handed over: it is held by a disconnect path of the order whose prior state is ACTIVE or BROKEN. -/
def State.handedOver (s : State) (disconnect : List PathId) (r : RowId) : Bool :=
  disconnect.any fun d => s.wasConnected d && s.pathHolds d r

/-- R64: the rows that connect path p needs. -/
def State.neededBy (s : State) (disconnect : List PathId) (p : PathId) : List RowId :=
  s.paths[p].rowSet.filter fun r => !s.pathHolds p r && !s.handedOver disconnect r

/-- R65: a row is held by a path of the site. -/
def State.heldBySite (s : State) (site : SiteId) (r : RowId) : Bool :=
  match s.arbiter.holders[r] with
  | .path q => s.paths[q].site == site
  | .free | .scan _ => false

/-- R65: the position of the first connect path that owns a conflicting row: a needed row held by a path of the order's own
site, or a row in common with an earlier connect path. -/
def State.conflictAt (s : State) (site : SiteId) (disconnect : List PathId) : List PathId → List PathId → Nat → Option Nat
  | _, [], _ => none
  | earlier, p :: rest, i =>
    if (s.neededBy disconnect p).any (s.heldBySite site) ||
        (s.paths[p].rowSet.any fun r => earlier.any fun q => s.paths[q].rowSet.contains r) then some i
    else s.conflictAt site disconnect (p :: earlier) rest (i + 1)

/-- R64: the claim's needed-row set. -/
def State.switchClaim (s : State) (disconnect connect : List PathId) : List RowId :=
  ascending (connect.flatMap (s.neededBy disconnect))

/-- R66: the rows that a scan's guard path adds: those of an IDLE guard. -/
def State.guardRows (s : State) (guard : Option PathId) : List RowId :=
  match guard with
  | some g => if s.paths[g].prior == some .idle then s.paths[g].rowSet else []
  | none => []

/-- R66: the conflicts of a scan's claim: on the scan row the no-index value, on a row of the guard path 8. Where both conflict, the scan
row's index is given (DEDUCED, log 52). -/
def State.scanConflict (s : State) (site : SiteId) (row : RowId) (guard : Option PathId) : Option (Option Nat) :=
  if s.heldBySite site row || (s.guardRows guard).contains row then some none
  else if (s.guardRows guard).any (s.heldBySite site) then some (some 8)
  else none

/-- R66: the needed rows of a scan and of its guard. -/
def State.scanClaim (s : State) (row : RowId) (guard : Option PathId) : List RowId := ascending (row :: s.guardRows guard)

/-! ## Grants (R68) -/

/-- The order of a context is a SCAN. -/
def Context.isScan (c : Context) : Bool :=
  match c.order with
  | some o => o.kind == .scan
  | none => false

/-- R68: the holder that a granted row takes: the scan, or the connect path or guard path whose row set holds it. -/
def State.grantee (s : State) (n : SiteId) (r : RowId) : RowHolder :=
  let c := s.contexts[n]
  if c.isScan && c.scanOps.rowId == r then .scan n
  else
    match c.connect.find? fun p => s.paths[p].rowSet.contains r with
    | some p => .path p
    | none => .free

/-- R68: every needed row takes its holder in one step. -/
def State.grantRows (s : State) (n : SiteId) (rows : List RowId) : State :=
  { s with arbiter := { s.arbiter with
      holders := mapAt s.arbiter.holders fun r h => if rows.contains r then s.grantee n r else h } }

/-- The fate of a claim (R67). -/
inductive ClaimFate where
  | granted | busy | waits
deriving DecidableEq, Repr

/-- R67. -/
def State.claimFate (s : State) (n : SiteId) (rows : List RowId) : ClaimFate :=
  if rows.isEmpty then .granted
  else if s.arbiter.waiting.isEmpty && rows.all s.rowFree then .granted
  else if s.lanes[siteLane n].desc.claimWait = 0 then .busy
  else .waits

/-- R69: the claim joins the young end of the waiting list, and a walk is owed (R71). -/
def State.appendClaim (s : State) (n : SiteId) (rows : List RowId) : State :=
  { s with arbiter := { s.arbiter with
      waiting := s.arbiter.waiting ++ [{ lane := n, rows := rows, enqueued := s.now }], walkOwed := true } }

/-- R72, R73: the entry of a lane leaves the list; no row is released and no walk runs. -/
def State.removeClaim (s : State) (n : SiteId) : State :=
  { s with arbiter := { s.arbiter with waiting := s.arbiter.waiting.filter fun e => e.lane != n } }

/-! ## The reservation walk (R70) -/

/-- R70: one pass from the oldest entry to the youngest. Answers the state with the rows granted, the entries that stay,
and the lanes granted, in order. -/
def State.walkFrom (s : State) (reserved : List RowId) : List WaitEntry → State × List WaitEntry × List SiteId
  | [] => (s, [], [])
  | e :: rest =>
    if e.rows.all (fun r => s.rowFree r && !reserved.contains r) then
      let (t, stay, granted) := (s.grantRows e.lane e.rows).walkFrom reserved rest
      (t, stay, e.lane :: granted)
    else
      let (t, stay, granted) := s.walkFrom (reserved ++ e.rows.filter s.rowFree) rest
      (t, e :: stay, granted)

/-- R70: the walk; the granted entries leave the list. -/
def State.walk (s : State) : State × List SiteId :=
  let (t, stay, granted) := s.walkFrom [] s.arbiter.waiting
  ({ t with arbiter := { t.arbiter with waiting := stay, walkOwed := false } }, granted)

/-! ## Handover (R75) -/

/-- R75: each row marked for handover takes the connect path whose row set holds it, in one step; nothing is released. -/
def State.handover (s : State) (disconnect connect : List PathId) : State :=
  { s with arbiter := { s.arbiter with
      holders := mapAt s.arbiter.holders fun r h =>
        if s.handedOver disconnect r then
          match connect.find? fun p => s.paths[p].rowSet.contains r with
          | some p => .path p
          | none => h
        else h } }

/-- R34, R74: every row FREE. -/
def State.freeAllRows (s : State) : State :=
  { s with arbiter := { s.arbiter with holders := .replicate 16 .free } }

end Sys2Proof.Machine
end

