-- ==== Sys2Proof/Machine/Lanes.lean ====
section
/-! DEFINITION. The lanes (chapter 3): status words, state changes, halts, start events, order starts and ends, and what
LANE_SKIP, LANE_RESET and PARK_ALL do to a lane apart from the order it runs. -/

namespace Sys2Proof.Machine

/-! ## Status words (R53, R178) -/

/-- A status word's next write is issued when the previous one has completed; it carries the word as it then stands. -/
def StatusPort.pump (port : StatusPort) (access : MemAccess) : StatusPort :=
  match port.owed with
  | [] => port
  | causes :: rest => { access := some access, causes := causes, owed := rest }

/-- The port has a write to issue and none in flight. -/
def StatusPort.ready (port : StatusPort) : Bool := port.access.isNone && !port.owed.isEmpty

/-- No write of the word is in flight or owed. -/
def StatusPort.quiet (port : StatusPort) : Bool := port.access.isNone && port.owed.isEmpty

/-- One more write of the word, with the causes that follow it. -/
def StatusPort.owe (port : StatusPort) (causes : BitVec 7) : StatusPort := { port with owed := port.owed ++ [causes] }

/-- The write in flight has completed. -/
def StatusPort.completed (port : StatusPort) : StatusPort := { port with access := none, causes := 0 }

/-- The address of a lane's status word. -/
def State.laneStatusAddr (s : State) (n : LaneId) : Addr := s.configBase + BitVec.ofNat 64 (laneStatusOffset n)

/-- The next write of a lane's status word is issued, if one is owed and none is in flight. -/
def State.pumpLane (s : State) (n : LaneId) : State :=
  if s.lanes[n].port.ready then
    (s.modLane n fun l =>
      { l with port := l.port.pump (s.newAccess (.write (s.laneStatusAddr n) l.statusWord)) }).tagTaken
  else s

/-- R53: a write of a lane's status word, followed by the causes named. -/
def State.writeLaneStatus (s : State) (n : LaneId) (causes : BitVec 7) : State :=
  (s.modLane n fun l => { l with port := l.port.owe causes }).pumpLane n

/-! ## Lane accesses -/

/-- The lane's access is issued. -/
def State.laneIssue (s : State) (n : LaneId) (op : LaneOp) (req : MemReq) : State :=
  (s.modLane n fun l => { l with access := some { op := op, access := s.newAccess req } }).tagTaken

/-- The completion named by `tag` is that of the lane's access, and the access is for `op`. -/
def Lane.completes (l : Lane) (op : LaneOp) (tag : Nat) : Bool :=
  match l.access with
  | some a => a.op == op && a.access.tag == tag
  | none => false

/-- The lane's access has been completed. -/
def State.laneAccessDone (s : State) (n : LaneId) : State := s.modLane n fun l => { l with access := none }

/-! ## State changes -/

/-- R45: the poll timer runs while a FREE lane is IDLE and its poll interval is not 0; it starts at the moment of entry. -/
def State.pollStart (s : State) (l : Lane) (state : LaneState) : Option Time :=
  if state = .idle ∧ l.desc.mode = .free ∧ l.desc.pollInterval ≠ 0 then some s.now else none

/-- A lane enters a state other than HALTED: no halt reason is present, and the status word is written when the state
changes (R53). -/
def State.enterLane (s : State) (n : LaneId) (state : LaneState) : State :=
  let t := s.modLane n fun l => { l with state := state, halt := none, pollTimer := s.pollStart l state }
  if s.lanes[n].state = state then t else t.writeLaneStatus n 0

/-- R53: the causes that follow the status word of a halt. PARKED raises none (R60). -/
def HaltReason.causes : HaltReason → BitVec 7
  | .orderFailed | .badLink => causeHalt
  | .memoryRead | .memoryWrite => causeHalt ||| causeMemory
  | .parked => 0

/-- R53, R108: a lane enters HALTED: its timers but the cadence timer stop, no command waits any more, RDY drops and the status word
is written. -/
def State.haltLane (s : State) (n : LaneId) (reason : HaltReason) : State :=
  ((s.modLane n fun l =>
      { l with
        state := .halted, halt := some reason, pollTimer := none, offsetTimer := none, held := none,
        deferred := .none, memoryOwed := false }).dropLaneRdy n).writeLaneStatus n reason.causes

def State.setCursor (s : State) (n : LaneId) (c : Cursor) : State := s.modLane n fun l => { l with cursor := c }

def State.setDeferred (s : State) (n : LaneId) (d : Deferred) : State := s.modLane n fun l => { l with deferred := d }

/-- R58 step 2, R60: the pending start is cleared and the offset, cadence and poll timers stop. -/
def State.stopLaneTimers (s : State) (n : LaneId) : State :=
  s.modLane n fun l => { l with pendingStart := false, offsetTimer := none, cadenceTimer := none, pollTimer := none }

/-! ## Start events (R43) -/

/-- R43: the read of a record's first 64 octets. -/
def State.readRecord (s : State) (n : LaneId) (y : Addr) : State := s.laneIssue n .recordRead (.read y 64)

/-- R43: a start event that the lane takes in IDLE is handled according to its cursor. -/
def State.startEvent (s : State) (n : LaneId) : State :=
  match s.lanes[n].cursor with
  | .empty => s
  | .atTail x => (s.enterLane n .fetching).laneIssue n .linkRead (.read (linkAddr x) 8)
  | .next y => (s.enterLane n .fetching).readRecord n y

/-- R42, R44: a LANE_START bit reaches a lane: a start event for a FREE lane that is IDLE with no start pending. -/
def State.laneStart (s : State) (n : LaneId) : State :=
  let l := s.lanes[n]
  if l.desc.mode = .free ∧ l.state = .idle ∧ l.pendingStart = false then s.startEvent n else s

/-- R46: the missed-strobe count plus 1, saturating at 65,535. -/
def State.missStrobe (s : State) (n : LaneId) : State := s.modLane n fun l => { l with missed := min (l.missed + 1) 65535 }

/-- R46: a strobe reaches a site lane. -/
def State.strobeLane (s : State) (n : LaneId) : State :=
  let l := s.lanes[n]
  if l.desc.mode = .strobed then
    match l.state with
    | .idle =>
      -- R171: the lanes take start events from the moment the device is ENABLED (DEDUCED, log 26)
      if s.isEnabled = false ∨ l.cursor = .empty then s
      else if l.cadenceTimer.isSome then s.missStrobe n
      else (s.modLane n fun l => { l with offsetTimer := some s.now }).startEvent n
    | .fetching | .offset | .running => s.missStrobe n
    | .halted | .disabled => s
  else s

/-! ## Order start and end (R49–R52) -/

/-- R49 steps 1–3: the start timestamp, the cadence timer, the snapshot, and the write of the result area. -/
def State.orderStart (s : State) (n : LaneId) : State :=
  let l := s.lanes[n]
  let snapshot := if l.desc.mode = .strobed then l.missed else 0
  (s.modLane n fun l =>
      { l with
        started := s.now, cadenceTimer := if l.desc.cadence = 0 then none else some s.now, snapshot := snapshot,
        missed := 0, offsetTimer := none }).laneIssue n .startResult
    (.write (resultAddr l.record) (startResult s.now snapshot).octets)

/-- R51: the write of the whole result area at an order's end; the final state is written after it. -/
def State.endOrder (s : State) (n : LaneId) (code : Code) (acc : Accumulators) (steps timeouts : Nat) : State :=
  let l := s.lanes[n]
  (s.modLane n fun l => { l with final := code.final }).laneIssue n .endResult
    (.write (resultAddr l.record) (endResult code acc steps timeouts l.snapshot l.started s.now).octets)

/-- The accumulators of an order that did nothing, with a failing index. -/
def accFailing (failing : Option Nat) : Accumulators := { Accumulators.reset with failing := failing }

/-- R57: the held record of a lane in OFFSET is written ABORTED: both timestamps the time of the command, every count 0, no
flags, a snapshot of 0. The offset timer stops and RDY drops (R108). -/
def State.abortOffset (s : State) (n : LaneId) : State :=
  ((s.modLane n fun l => { l with final := .aborted, offsetTimer := none }).dropLaneRdy n).laneIssue n .endResult
    (.write (resultAddr s.lanes[n].record) (endResult .aborted (accFailing none) 0 0 0 s.now s.now).octets)

/-- R52: the lane reads the link of the record it has finished. -/
def State.readEndLink (s : State) (n : LaneId) (x : Addr) : State :=
  ((s.setCursor n (.atTail x)).enterLane n .fetching).laneIssue n .endLinkRead (.read (linkAddr x) 8)

/-! ## LANE_RESET (R58) -/

/-- R58 steps 2 and 3: the timers cleared, the halt reason gone, and the head address field read again. -/
def State.resetLane (s : State) (n : LaneId) : State :=
  (((s.stopLaneTimers n).modLane n fun l => { l with held := none, deferred := .none, memoryOwed := false }).enterLane n
    .fetching).laneIssue n .headRead (.read (s.configBase + BitVec.ofNat 64 (laneDescriptorOffset n)) 8)

/-- R60: the lane enters HALTED with reason PARKED. -/
def State.parkHalt (s : State) (n : LaneId) : State := (s.stopLaneTimers n).haltLane n .parked

/-! ## Completions of the lane's accesses -/

/-- A failed read whose result a waiting command discards (R58, R60): the error halts nothing, and MEMORY is set (R175). -/
def State.discardRead (s : State) (n : LaneId) (ok : Bool) : State :=
  let t := s.raiseMemoryUnless ok
  match s.lanes[n].deferred with
  | .park => t.parkHalt n
  | .reset => t.resetLane n
  | .none | .skip => t

/-- A command waits for the read in flight (R58, R60). -/
def Lane.discards (l : Lane) : Bool := l.deferred == .reset || l.deferred == .park

/-- R44, R47: an armed record has just been read into the held record. -/
def State.recordArmed (s : State) (n : LaneId) : State :=
  let l := s.lanes[n]
  match l.desc.mode with
  | .free =>
    if l.cadenceTimer.isSome then
      (s.modLane n fun l => { l with held := none, pendingStart := true }).enterLane n .idle
    else s.orderStart n
  | .strobed =>
    match l.offsetTimer with
    | some start => if s.reached start l.desc.offsetDelay.toNat then s.orderStart n else s.enterLane n .offset
    | none => s.orderStart n

/-- R43: a record read has completed. -/
def State.recordRead (s : State) (n : LaneId) (result : Option (List Byte)) : State :=
  let t := s.laneAccessDone n
  if s.lanes[n].discards then t.discardRead n result.isSome
  else
    match result with
    | none => t.haltLane n .memoryRead
    | some bytes =>
      if recordState bytes = stateArmed then
        (t.modLane n fun l => { l with held := some { addr := l.cursor.addr, bytes := bytes } }).recordArmed n
      else (t.modLane n fun l => { l with offsetTimer := none }).enterLane n .idle

/-- R43, R52: a link read has completed. `atEnd`: the link was read at the end of an order. -/
def State.linkRead (s : State) (n : LaneId) (atEnd : Bool) (result : Option (List Byte)) : State :=
  let t := s.laneAccessDone n
  if s.lanes[n].discards then t.discardRead n result.isSome
  else
    match result with
    | none => t.haltLane n .memoryRead
    | some bytes =>
      let link := le64 bytes 0
      if link = 0 then (t.modLane n fun l => { l with offsetTimer := none }).enterLane n .idle
      else if aligned128 link then
        if atEnd = true ∧ s.lanes[n].desc.mode = .strobed then (t.setCursor n (.next link)).enterLane n .idle
        else (t.setCursor n (.next link)).readRecord n link
      else t.haltLane n .badLink

/-- R58 steps 4 and 5: the read of the head address has completed. The head field of the descriptor copy keeps its ENABLE value (DEDUCED,
log 50). -/
def State.headRead (s : State) (n : LaneId) (result : Option (List Byte)) : State :=
  let t := s.laneAccessDone n
  if s.lanes[n].discards then t.discardRead n result.isSome
  else
    match result with
    | none => (t.setCursor n .empty).haltLane n .memoryRead
    | some bytes =>
      let head := le64 bytes 0
      if aligned128 head then
        ((t.setCursor n (if head = 0 then .empty else .next head)).modLane n fun l => { l with missed := 0 }).enterLane n .idle
      else (t.setCursor n .empty).haltLane n .badLink

/-- R49, R56, R172: a write of an order start has failed. -/
def State.startWriteFailed (s : State) (n : LaneId) : State :=
  match s.lanes[n].deferred with
  | .park => (s.raise causeMemory).parkHalt n
  | .reset => (s.haltLane n .memoryWrite).resetLane n
  | .none | .skip => s.haltLane n .memoryWrite

/-- R49 step 4: the result write of an order start has completed; TAKEN is written after it. -/
def State.startResultDone (s : State) (n : LaneId) (ok : Bool) : State :=
  let t := s.laneAccessDone n
  if ok then t.laneIssue n .taken (.write s.lanes[n].record [stateTaken]) else t.startWriteFailed n

/-- R56, R58, R172: a write of an order's end, or of an abort in OFFSET, has failed. With a LANE_RESET waiting, the order that has run
halts its lane, which the reset then takes on from there (DEDUCED, log 12); the abort in OFFSET only sets MEMORY. Under PARK_ALL and
DISABLE the lane halts with PARKED; the cursor stays NEXT (R56), but for an ABORTED record, whose cursor R60 has AT_TAIL (DEDUCED,
log 11). -/
def State.endWriteFailed (s : State) (n : LaneId) : State :=
  match s.lanes[n].deferred with
  | .park =>
    let t := s.raise causeMemory
    (if s.lanes[n].final = .aborted then t.setCursor n (.atTail s.lanes[n].record) else t).parkHalt n
  | .reset => if s.lanes[n].state = .offset then (s.raise causeMemory).resetLane n else (s.haltLane n .memoryWrite).resetLane n
  | .none | .skip => s.haltLane n .memoryWrite

/-- R51: the result write of an order's end has completed; the final state is written after it. -/
def State.endResultDone (s : State) (n : LaneId) (ok : Bool) : State :=
  let t := s.laneAccessDone n
  if ok then t.laneIssue n .finalState (.write s.lanes[n].record [s.lanes[n].final.toByte]) else t.endWriteFailed n

/-- R51, R175: the causes that follow a completed state write: NOTIFY when the record asks for it, and a failing service order's
MEMORY. -/
def Lane.stateWriteCauses (l : Lane) : BitVec 7 :=
  (if flagNotify l.flags then causeNotify else 0) ||| (if l.memoryOwed then causeMemory else 0)

/-- R52: what the lane does after the state write, according to the final state and the command that waits. A LANE_RESET, PARK_ALL or
DISABLE that waits goes on at once, also after a FAILED record without CONTINUE (DEDUCED, log 51). -/
def State.afterFinal (s : State) (n : LaneId) : State :=
  let l := s.lanes[n]
  let x := l.record
  match l.deferred with
  | .park => (s.setCursor n (.atTail x)).parkHalt n
  | .reset => s.resetLane n
  | .none | .skip =>
    if l.final = .failed ∧ flagContinue l.flags = false then (s.setCursor n (.atTail x)).haltLane n .orderFailed
    else (s.modLane n fun l => { l with held := none, memoryOwed := false, deferred := .none }).readEndLink n x

/-- R51: the state write has completed. -/
def State.stateWriteDone (s : State) (n : LaneId) (ok : Bool) : State :=
  let t := s.laneAccessDone n
  if ok then (t.raise s.lanes[n].stateWriteCauses).afterFinal n else t.endWriteFailed n

end Sys2Proof.Machine
end

