-- ==== Sys2Proof/Machine/Planner.lean ====
section
/-! DEFINITION. The switch planner (chapter 5): change sets, waves, timings, planned time and the checks before switching. -/

namespace Sys2Proof.Machine

/-! ## Change sets (R80, R81) -/

/-- The relays that one path gives to a change set, with the failing index that names the path (R84). -/
structure PlanPart where
  index : Nat
  path : PathId
  relays : List RelayNo
deriving DecidableEq, Repr

/-- R81: what a disconnect path gives to O: its CLOSED relays that no connect path of the order needs. An isolation relay
iso(b, r) is in the whole relay set of exactly the paths with a crosspoint on row r in bay b. -/
def State.openingPart (s : State) (connect : List PathId) (p : PathId) : List RelayNo :=
  (s.relaySet p).filter fun n => s.isClosed n && !connect.any fun q => (s.wholeRelaySet q).contains n

/-- R80: what a connect path gives to C: the relays of its whole relay set that are OPEN. -/
def State.closingPart (s : State) (p : PathId) : List RelayNo := (s.wholeRelaySet p).filter fun n => !s.isClosed n

/-- R80, R81: the parts of a disconnect list: those of the paths whose prior state is ACTIVE or BROKEN. -/
def State.openingParts (s : State) (disconnect connect : List PathId) : List PlanPart :=
  (disconnect.zipIdx.filter fun x => s.wasConnected x.1).map fun x =>
    { index := x.2, path := x.1, relays := s.openingPart connect x.1 }

/-- R80: the parts of a connect list: those of the paths whose prior state is IDLE or BROKEN. -/
def State.closingParts (s : State) (connect : List PathId) : List PlanPart :=
  (connect.zipIdx.filter fun x => s.wasOpen x.1).map fun x =>
    { index := 8 + x.2, path := x.1, relays := s.closingPart x.1 }

/-- The set of all relays of some parts. -/
def partsSet (parts : List PlanPart) : List RelayNo := ascending (parts.flatMap PlanPart.relays)

/-! ## Waves (R87, R88) -/

/-- R88: isolation relays first, by ascending row, then crosspoints, by ascending relay number. -/
def sendOrder (set : List RelayNo) : List RelayNo := set.filter isIsolation ++ set.filter fun n => !isIsolation n

/-- R88: the first `w` relays, then the following `w`, and so on; `fuel` bounds the number of waves. -/
def packInto (w : Nat) : Nat → List RelayNo → List (List RelayNo)
  | 0, _ => []
  | fuel + 1, relays => if relays.isEmpty then [] else relays.take w :: packInto w fuel (relays.drop w)

/-- R88: a list packed into waves of at most `w` relays. -/
def pack (w : Nat) (relays : List RelayNo) : List (List RelayNo) := packInto w relays.length relays

/-- An opening wave of a bay, with its break hold (R87, R89). -/
def State.openingWave (s : State) (b : BayId) (relays : List RelayNo) (source : WaveSource) : Wave :=
  { bay := b, closing := false, relays := relays, span := s.breakHold relays, bounce := 0, hot := [], source := source }

/-- The closing waves of a list of relays of one bay, already in send order (R88, R89). -/
def State.closingWaves (s : State) (b : BayId) (relays : List RelayNo) : List Wave :=
  (pack (s.waveLimit b) relays).map fun chunk =>
    { bay := b, closing := true, relays := chunk, span := s.waveOperate chunk, bounce := s.makeBounce relays, hot := [],
      source := .planned }

/-- R87: one opening wave for each bay that holds a relay of O, by ascending bay address. -/
def State.openingWaves (s : State) (opening : List RelayNo) : List Wave :=
  ((List.finRange 8).filter fun b => !(inBay b opening).isEmpty).map fun b =>
    s.openingWave b (inBay b opening) .planned

/-! ## Planned time (R89, R90) -/

/-- R90: the sum of a bay's wave operate times plus its make bounce. -/
def makeTime (waves : List Wave) (bounce : Nat) : Nat := (waves.map Wave.span).foldl (· + ·) 0 + bounce

/-- R89: the largest extra settle among the order's connect paths, when C is not empty. -/
def State.planSettle (s : State) (connect : List PathId) (closing : List RelayNo) : Nat :=
  if closing.isEmpty then 0 else largest (connect.map fun p => s.paths[p].extraSettle.toNat)

/-- R90: T_break. -/
def State.breakTime (s : State) (opening : List RelayNo) : Nat :=
  largest ((List.finRange 8).map fun b => if (inBay b opening).isEmpty then 0 else s.breakHold (inBay b opening))

/-- R90: T_gap. -/
def State.gapTime (s : State) (opening closing : List RelayNo) : Nat :=
  if opening.isEmpty || closing.isEmpty then 0 else s.cfg.gap.toNat

/-- R90: T_make. -/
def State.makePhaseTime (s : State) (closing : List RelayNo) : Nat :=
  largest ((List.finRange 8).map fun b =>
    let relays := sendOrder (inBay b closing)
    if relays.isEmpty then 0 else makeTime (s.closingWaves b relays) (s.makeBounce relays))

/-- R90: P = T_break + T_gap + T_make + T_settle. -/
def State.plannedTime (s : State) (opening closing : List RelayNo) (settle : Nat) : Nat :=
  s.breakTime opening + s.gapTime opening closing + s.makePhaseTime closing + settle

/-! ## Checks before switching (R83, R84) -/

def State.bayOnline (s : State) (b : BayId) : Bool := s.link.bays[b].state == .online

/-- Check 3 of R83: a relay of the part lies on a live row, and the path's hot policy is REFUSE. -/
def State.partRefused (s : State) (p : PlanPart) : Bool :=
  s.paths[p.path].policy == .refuse && p.relays.any fun n => s.rowLive (relayRow n)

/-- R84: the failing index of the first path, in the order of R84, with a part that fails; the indexes ascend in that order. -/
def firstIndex (parts : List PlanPart) (fails : PlanPart → Bool) : Option Nat := ((parts.filter fails).map PlanPart.index).min?

/-- Check 2 of R83: a relay of the part lies in a bay that is not ONLINE. -/
def State.partOffline (s : State) (p : PlanPart) : Bool := p.relays.any fun n => !s.bayOnline (relayBay n)

/-- R83, R84: the first check that fails, with its failing index. By check 2 the planning event of an order that a bay drop has found
waiting for its claim finds the bay unavailable (R112; DEDUCED, log 54). -/
def State.planCheck (s : State) (opens closes : List PlanPart) (planned budget : Nat) : Option (Code × Option Nat) :=
  match firstIndex closes fun p => p.relays.any s.isRetired with
  | some i => some (.relayRetired, some i)
  | none =>
    match firstIndex (opens ++ closes) s.partOffline with
    | some i => some (.bayUnavailable, some i)
    | none =>
      match firstIndex (opens ++ closes) s.partRefused with
      | some i => some (.hotRefused, some i)
      | none => if budget ≠ 0 ∧ budget < planned then some (.overBudget, none) else none

/-- R79: the planning event: the plan, with the failing index of its failed check. -/
def State.makePlan (s : State) (opens closes : List PlanPart) (connect : List PathId) (budget : Nat) : Plan × Option Nat :=
  let opening := partsSet opens
  let closing := partsSet closes
  let settle := s.planSettle connect closing
  let planned := s.plannedTime opening closing settle
  let check := s.planCheck opens closes planned budget
  ({ opening := opening, closing := closing, openingWaves := s.openingWaves opening,
     closingWaves := Vector.ofFn fun b => s.closingWaves b (sendOrder (inBay b closing)),
     breakHolds := Vector.ofFn fun b => if (inBay b opening).isEmpty then none else some (s.breakHold (inBay b opening)),
     makeBounces := Vector.ofFn fun b => if (inBay b closing).isEmpty then none else some (s.makeBounce (inBay b closing)),
     gap := s.gapTime opening closing, settle := settle, planned := planned, outcome := check.map Prod.fst },
    check.bind Prod.snd)

end Sys2Proof.Machine
end

