-- ==== Sys2Proof/Machine/Engine.lean ====
section
/-! DEFINITION. The switch engine (chapters 6 and 7): endings, judgement and the end of an order, the live check of a wave, and
hot holds. -/

namespace Sys2Proof.Machine

/-! ## The context -/

/-- R95: the frame in flight of a context is the frame on the link that the arbiter has granted to it. -/
def State.inFlight (s : State) (n : SiteId) : Bool :=
  match s.link.frame with
  | some f => f.owner == .context n
  | none => false

/-- A context holds an order. -/
def Context.active (c : Context) : Bool := c.order.isSome

/-- The flags of the context's order. -/
def Context.flags (c : Context) : BitVec 16 :=
  match c.order with
  | some o => o.flags
  | none => 0

/-- The lane's hot-wait limit, as the order carries it (R120). -/
def Context.hotWait (c : Context) : Nat :=
  match c.order with
  | some o => o.hotWait.toNat
  | none => 0

/-- The paths that the order named (R27, R28). -/
def Context.named (c : Context) : List PathId := c.disconnect ++ c.connect

def State.setFailing (s : State) (n : SiteId) (failing : Option Nat) : State :=
  s.modContext n fun c => { c with acc := { c.acc with failing := failing } }

/-! ## Judgement and the end of an order (R29–R32, R105, R108) -/

/-- The rows that the scan of a lane holds (R74). -/
def State.scanRows (s : State) (n : SiteId) : List RowId := (List.finRange 16).filter fun r => s.arbiter.holders[r] == .scan n

/-- R30–R32, R74: the judgement of the paths that an order named, with the rows they give up and the scan row released
together. The plan slot is emptied (R78). -/
def State.judge (s : State) (n : SiteId) : State :=
  let c := s.contexts[n]
  let judged := if c.passed then s.judgePassed c.named else s.judgeUnpassed c.named
  (judged.1.releaseRows (judged.2 ++ s.scanRows n)).setPlan n none

/-- R108: RDY rises at the end of an order that ends OK and carries READY, and drops where the record ends FAILED or ABORTED. -/
def State.endRdy (s : State) (n : SiteId) (code : Code) : State :=
  if code = .ok then (if flagReady s.contexts[n].flags then s.setRdy n true else s) else s.setRdy n false

/-- R105: the context at END: judgement (an order ended by PARK_ALL or DISABLE has none), RDY, the return to NONE, and the end
handed to the lane. An order that has ended has no entry in the waiting list (R61, R69). -/
def State.finishOrder (s : State) (n : SiteId) (code : Code) : State :=
  let c := s.contexts[n]
  let judged := if c.unjudged then s.removeClaim n else (s.removeClaim n).judge n
  ((judged.endRdy n code).modContext n fun _ => .reset).endOrder (siteLane n) code c.acc c.stepsReady c.stepTimeouts

/-! ## Endings (R106, R138) -/

/-- R106, R125: an ending withdraws the due waves, ends any hot hold and stops the timers. A scan's cleanup wave is the one wave
that it does not withdraw (R138). -/
def Context.stopped (c : Context) : Context :=
  { c with
    due := c.due.filter fun w => w.source == .cleanup
    held := none, holdQueue := []
    breakTimers := .replicate 8 .absent, gapTimer := none, nextClosings := .replicate 8 []
    spacingTimers := .replicate 8 none, makeTimers := .replicate 8 .absent, settleTimer := none
    senseDue := [], advanceTimer := none }

/-- R138: those of the scan's current crosspoint and isolation relay that are CLOSED in the image. -/
def State.cleanupSet (s : State) (n : SiteId) : List RelayNo :=
  let c := s.contexts[n]
  match c.column with
  | some col => (ascending [crosspoint c.scanOps.rowId col, isolation (columnBay col) c.scanOps.rowId]).filter s.isClosed
  | none => []

/-- R138: a non-empty cleanup set is offered as one opening wave without a live check. -/
def State.offerCleanup (s : State) (n : SiteId) : State :=
  let set := s.cleanupSet n
  s.modContext n fun c =>
    { c with
      scanPhase := .cleanup
      due := match c.column with
        | some col => if set.isEmpty then [] else [s.openingWave (columnBay col) set .cleanup]
        | none => [] }

/-- R106, R138: what an order with an ending does once it has no frame in flight: a scan that has passed its checks cleans up
first, and after a failure waits for its cleanup wave's break hold. -/
def State.proceedEnding (s : State) (n : SiteId) : State :=
  let c := s.contexts[n]
  match c.ending with
  | none => s
  | some code =>
    if s.inFlight n then s
    else
      match c.scanPhase with
      | .none | .claim | .guardOff | .finish => s.finishOrder n code
      | .cleanup => if c.due.isEmpty && (c.abortTaken || c.cleanupHold.isNone) then s.finishOrder n code else s
      | .guard | .stepBreak | .stepGap | .stepMake | .stepSettle | .await =>
        if c.passed && !(s.cleanupSet n).isEmpty then s.offerCleanup n else s.finishOrder n code

/-- R106: an order takes an ending; a second ending does not change its code. -/
def State.takeEnding (s : State) (n : SiteId) (code : Code) (failing : Option Nat) : State :=
  if s.contexts[n].active && s.contexts[n].ending.isNone then
    (s.modContext n fun c => { c.stopped with ending := some code, acc := { c.acc with failing := failing } }).proceedEnding n
  else s

/-! ## The live check (R119, R120, R127) -/

/-- R119: the owning policy of a relay, through the holder of its row. -/
def State.owningPolicy (s : State) (r : RelayNo) : HotPolicy :=
  match s.arbiter.holders[relayRow r] with
  | .path p => s.paths[p].policy
  | .scan m => s.contexts[m].scanOps.hotPolicy
  | .free => .allow

/-- R120: REFUSE is stricter than WAIT and WAIT stricter than ALLOW. -/
def HotPolicy.stricter : HotPolicy → HotPolicy → HotPolicy
  | .refuse, _ | _, .refuse => .refuse
  | .wait, _ | _, .wait => .wait
  | .allow, .allow => .allow

/-- R120: the deciding policy: the strictest among the owning policies of the hot relays. -/
def State.decidingPolicy (s : State) (hot : List RelayNo) : HotPolicy :=
  hot.foldl (fun acc r => acc.stricter (s.owningPolicy r)) .allow

/-- R127: path p owns a hot relay and its policy is the deciding policy. -/
def State.decides (s : State) (hot : List RelayNo) (policy : HotPolicy) (p : PathId) : Bool :=
  s.paths[p].policy == policy && hot.any fun r => s.pathHolds p (relayRow r)

/-- R127: the failing index of a hot ending: the first deciding path in the order of R84; 8 for a guard path; the no-index value
where the deciding relay is owned by a scan. -/
def State.hotFailing (s : State) (n : SiteId) (hot : List RelayNo) : Option Nat :=
  let c := s.contexts[n]
  let p := s.decides hot (s.decidingPolicy hot)
  if c.isScan then (if c.named.any p then some 8 else none)
  else
    match c.disconnect.findIdx? p with
    | some i => some i
    | none => (c.connect.findIdx? p).map (8 + ·)

/-- The outcomes of a live check (R120). -/
inductive LiveOutcome where
  /-- the wave joins the due waves, with its hot set -/
  | pass (hot : List RelayNo)
  /-- the wave must be held; with the failing index that a HOT_TIMEOUT would give -/
  | hold (failing : Option Nat)
  /-- the order takes an ending -/
  | fail (code : Code) (failing : Option Nat)
deriving DecidableEq, Repr

/-- R120: the table of the live check. -/
def State.liveCheck (s : State) (n : SiteId) (w : Wave) : LiveOutcome :=
  let hot := s.hotRelays w.relays
  if hot.isEmpty then .pass []
  else
    match s.decidingPolicy hot with
    | .allow => .pass hot
    | .wait => if s.contexts[n].hotWait = 0 then .fail .hotTimeout (s.hotFailing n hot) else .hold (s.hotFailing n hot)
    | .refuse => .fail .hotRefused (s.hotFailing n hot)

/-- A wave joins the due waves with its hot set (R121). -/
def State.joinDue (s : State) (n : SiteId) (w : Wave) (hot : List RelayNo) : State :=
  s.modContext n fun c => { c with due := c.due ++ [{ w with hot := hot }] }

/-- R97, R120, R124: a wave falls due. -/
def State.waveDue (s : State) (n : SiteId) (w : Wave) : State :=
  if s.contexts[n].active && s.contexts[n].ending.isNone then
    match s.liveCheck n w with
    | .pass hot => s.joinDue n w hot
    | .hold failing =>
      if s.contexts[n].held.isSome then s.modContext n fun c => { c with holdQueue := c.holdQueue ++ [w] }
      else s.modContext n fun c => { c with held := some { wave := w, start := s.now, failing := failing } }
    | .fail code failing => s.takeEnding n code failing
  else s

/-- Waves of one order that fall due at one instant are checked one after another (R97). -/
def State.wavesDue (s : State) (n : SiteId) (ws : List Wave) : State := ws.foldl (fun t w => t.waveDue n w) s

/-! ## Hot holds (R122–R125) -/

/-- R124: the held wave has left the hold; the waves of the hold queue are checked in turn until one is held, one ends the
order, or the queue is empty. -/
def State.drainQueue (s : State) (n : SiteId) : List Wave → State
  | [] => s.modContext n fun c => { c with held := none, holdQueue := [] }
  | w :: rest =>
    match s.liveCheck n w with
    | .pass hot => (s.joinDue n w hot).drainQueue n rest
    | .hold failing =>
      s.modContext n fun c => { c with held := some { wave := w, start := s.now, failing := failing }, holdQueue := rest }
    | .fail code failing => s.takeEnding n code failing

/-- R122: the held wave is checked again. -/
def State.recheckHeld (s : State) (n : SiteId) (h : HeldWave) : State :=
  match s.liveCheck n h.wave with
  | .pass hot => (s.joinDue n h.wave hot).drainQueue n s.contexts[n].holdQueue
  | .hold failing => s.modContext n fun c => { c with held := some { h with failing := failing } }
  | .fail code failing => s.takeEnding n code failing

/-- R122: an event of the live-line monitor on a row reaches a context whose held wave has a relay on that row. -/
def State.rowEvent (s : State) (n : SiteId) (r : RowId) : State :=
  match s.contexts[n].held with
  | some h => if h.wave.relays.any fun x => relayRow x == r then s.recheckHeld n h else s
  | none => s

end Sys2Proof.Machine
end

