-- ==== Sys2Proof/Machine/Scans.lean ====
section
/-! DEFINITION. Scans (chapter 8): steps, advances, cleanup and the guard path's disconnect. -/

namespace Sys2Proof.Machine

/-! ## Closing waves that wait for their turn (R97, R102, R133) -/

/-- R97: the next closing wave of a bay falls due, if the bay has one left. -/
def State.nextClosingDue (s : State) (n : SiteId) (b : BayId) : State :=
  match s.contexts[n].nextClosings[b] with
  | [] => s
  | w :: rest => (s.modContext n fun c => { c with nextClosings := setAt c.nextClosings b rest }).waveDue n w

/-- A bay's closing waves are set up, and its first one falls due. Once the order has taken an ending, no wave of it falls due
any more (R106). -/
def State.startBayMake (s : State) (n : SiteId) (b : BayId) (waves : List Wave) : State :=
  if s.contexts[n].active && s.contexts[n].ending.isNone then
    (s.modContext n fun c =>
      { c with nextClosings := setAt c.nextClosings b waves, makeTimers := setAt c.makeTimers b .notStarted }).nextClosingDue n b
  else s

/-- An opening wave of a bay falls due; the bay's break timer waits for its acknowledgement. -/
def State.startBayBreak (s : State) (n : SiteId) (w : Wave) : State :=
  if s.contexts[n].active && s.contexts[n].ending.isNone then
    (s.modContext n fun c => { c with breakTimers := setAt c.breakTimers w.bay .notStarted }).waveDue n w
  else s

/-! ## The checks of a step (R137) -/

/-- R133: the closing list of a step: the isolation relay where the step enters a bay, then the crosspoint. -/
def stepClosings (row : RowId) (col : ColumnId) (entersBay : Bool) : List RelayNo :=
  if entersBay then [isolation (columnBay col) row, crosspoint row col] else [crosspoint row col]

/-- R133: the relays of a step's opening wave, by ascending relay number: the old crosspoint, and the isolation relay where the
step leaves a bay. -/
def stepOpenings (row : RowId) (col : ColumnId) (leavesBay : Bool) : List RelayNo :=
  if leavesBay then [crosspoint row col, isolation (columnBay col) row] else [crosspoint row col]

/-- R137: the checks of a step's new column; the first that fails gives the ending. -/
def State.stepFailure (s : State) (closings : List RelayNo) (col : ColumnId) : Option Code :=
  if s.bayOnline (columnBay col) then
    if closings.any s.isRetired then some .relayRetired else none
  else if s.link.bays[columnBay col].state = .held then some .bayHeld
  else some .bayFault

/-- A step enters a bay when it has no current column, or one in another bay. -/
def entersBay (current : Option ColumnId) (col : ColumnId) : Bool :=
  match current with
  | some old => columnBay old != columnBay col
  | none => true

/-! ## Steps (R133, R134) -/

def State.setScanPhase (s : State) (n : SiteId) (p : ScanPhase) : State := s.modContext n fun c => { c with scanPhase := p }

/-- R133: a step's closing waves, packed under the bay's wave limit; the first falls due. -/
def State.stepMake (s : State) (n : SiteId) (col : ColumnId) (closings : List RelayNo) : State :=
  (s.setScanPhase n .stepMake).startBayMake n (columnBay col) (s.closingWaves (columnBay col) closings)

/-- R133, R137: step 0 begins. -/
def State.stepZero (s : State) (n : SiteId) : State :=
  let c := s.contexts[n]
  let col := c.scanOps.column 0
  let closings := stepClosings c.scanOps.rowId col true
  let t := s.setScanPhase n .stepMake
  match s.stepFailure closings col with
  | some code => t.takeEnding n code none
  | none => (t.modContext n fun c => { c with stepIndex := 0, column := some col }).stepMake n col closings

/-- R134: the end of a step's settle: RDY rises, the step is counted ready, and the advance timer starts. -/
def State.markReady (s : State) (n : SiteId) : State :=
  (s.modContext n fun c =>
    { c with
      scanPhase := .await, settleTimer := none, stepsReady := c.stepsReady + 1
      advanceTimer := some (s.timer (if c.scanOps.advance = .dwell then c.scanOps.dwell else c.scanOps.stepWait)) }).setRdy n true

/-- R135: a dwell of 0 advances at the rise itself. -/
def Context.dwellIsZero (c : Context) : Bool := c.scanPhase == .await && c.scanOps.advance == .dwell && c.scanOps.dwell == 0

/-! ## Cleanup and the guard's disconnect (R138, R139) -/

/-- R139: the guard is disconnected as a SWITCH that disconnects that one path: checks 2 and 3 of R83, no budget. -/
def State.startGuardOff (s : State) (n : SiteId) : State :=
  let c := s.contexts[n]
  let parts := c.connect.map fun g => { index := 8, path := g, relays := s.openingPart [] g : PlanPart }
  let (plan, failing) := s.makePlan parts [] [] 0
  let t := (s.setScanPhase n .guardOff).setPlan n (some plan)
  match plan.outcome with
  | some code => t.takeEnding n code failing
  | none => if plan.openingWaves.isEmpty then t.finishOrder n .ok else plan.openingWaves.foldl (fun u w => u.startBayBreak n w) t

/-- R138, R139: the end of CLEANUP: GUARD_OFF on a normal end with a guard path, else END. -/
def State.afterCleanup (s : State) (n : SiteId) : State :=
  let c := s.contexts[n]
  match c.ending with
  | some code => s.finishOrder n code
  | none => if c.connect.isEmpty then s.finishOrder n .ok else s.startGuardOff n

/-- R139: the normal end: the context enters CLEANUP with no ending present. -/
def State.normalEnd (s : State) (n : SiteId) : State :=
  let t := s.offerCleanup n
  if t.contexts[n].due.isEmpty then t.afterCleanup n else t

/-! ## Advance (R134–R137) -/

/-- R133, R137: the advance into a step whose column differs from the current one. -/
def State.changeColumn (s : State) (n : SiteId) (old col : ColumnId) : State :=
  let row := s.contexts[n].scanOps.rowId
  let leaves := columnBay old != columnBay col
  match s.stepFailure (stepClosings row col leaves) col with
  | some code => s.takeEnding n code none
  | none => (s.setScanPhase n .stepBreak).startBayBreak n (s.openingWave (columnBay old) (stepOpenings row old leaves) .planned)

/-- The advance: RDY drops and the advance timer stops; the last step brings the normal end, and any other begins the next step.
Steps that need no time at all (a repeated column, with settle and dwell 0) follow within the same event; `fuel` bounds their
number. -/
def State.advanceScan : Nat → SiteId → State → State
  | 0, _, s => s
  | fuel + 1, n, s =>
    let c := s.contexts[n]
    let ops := c.scanOps
    let t := (s.modContext n fun c => { c with advanceTimer := none }).setRdy n false
    let i := c.stepIndex + 1
    if ops.count ≤ i then t.normalEnd n
    else
      let u := t.modContext n fun c => { c with stepIndex := i }
      match c.column with
      | none => u
      | some old =>
        if ops.column i = old then
          let v := (u.setScanPhase n .stepSettle).modContext n fun c => { c with settleTimer := some (s.timer ops.settle) }
          if ops.settle = 0 then
            let w := v.markReady n
            if w.contexts[n].dwellIsZero then advanceScan fuel n w else w
          else v
        else u.changeColumn n old (ops.column i)

/-- A scan has at most 512 steps (R128). -/
def scanFuel : Nat := 513

/-- R134, R135: the settle of a step ends. -/
def State.stepReady (s : State) (n : SiteId) : State :=
  let t := s.markReady n
  if t.contexts[n].dwellIsZero then State.advanceScan scanFuel n t else t

/-- R133, R134: the make of a step ends, and the settle operand runs. -/
def State.stepSettle (s : State) (n : SiteId) : State :=
  let settle := s.contexts[n].scanOps.settle
  let t := (s.setScanPhase n .stepSettle).modContext n fun c => { c with settleTimer := some (s.timer settle) }
  if settle = 0 then t.stepReady n else t

/-- R133: the gap of a step ends, and its closing waves fall due. -/
def State.stepGapEnd (s : State) (n : SiteId) : State :=
  let c := s.contexts[n]
  match c.column with
  | none => s
  | some col =>
    let old := c.scanOps.column (c.stepIndex - 1)
    (s.modContext n fun c => { c with gapTimer := none }).stepMake n col
      (stepClosings c.scanOps.rowId col (columnBay old != columnBay col))

/-- R133: the break of a step ends: the current column moves, and the gap runs. -/
def State.stepBreakEnd (s : State) (n : SiteId) : State :=
  let c := s.contexts[n]
  let t := s.modContext n fun c =>
    { c with
      scanPhase := .stepGap, column := some (c.scanOps.column c.stepIndex)
      breakTimers := .replicate 8 .absent, gapTimer := some (s.timer s.cfg.gap.toNat) }
  if s.cfg.gap = 0 ∧ c.active = true then t.stepGapEnd n else t

end Sys2Proof.Machine
end

