-- ==== Sys2Proof/Machine/Phases.lean ====
section
/-! DEFINITION. The phases of a switch (chapter 6): planning, BREAK, GAP, MAKE, SETTLE and VERIFY, what a wave's acknowledgement
does, and the comparison of a sense read (chapter 9). -/

namespace Sys2Proof.Machine

def State.setPhase (s : State) (n : SiteId) (p : Phase) : State := s.modContext n fun c => { c with phase := p }

/-- The order of a context goes on: it is there and has taken no ending. -/
def Context.going (c : Context) : Bool := c.active && c.ending.isNone

/-! ## VERIFY (R104, R110) -/

/-- The coil groups of a bay that hold a relay of a set, in ascending order. -/
def senseGroups (b : BayId) (set : List RelayNo) : List Nat := dedup ((inBay b set).map relayGroup)

/-- The bays that hold a relay of a set, in ascending order. -/
def baysOf (set : List RelayNo) : List BayId := ascending (set.map relayBay)

/-- A verify set is formed: one SENSE frame is offered for each of its bays; an empty set ends the phase at its entry. -/
def State.startSensing (s : State) (n : SiteId) (set : List RelayNo) : State :=
  let t := s.modContext n fun c => { c with phase := .verify, verifySet := set, senseDue := baysOf set }
  if set.isEmpty then t.finishOrder n .ok else t

/-- R104: the verify set of a SWITCH or PARK: the relay sets of the connect paths on the rows they hold, and the relays of O. -/
def State.verifySetOf (s : State) (n : SiteId) : List RelayNo :=
  ascending (s.contexts[n].connect.flatMap s.relaySet ++
    match s.plans[n] with
    | some plan => plan.opening
    | none => [])

/-- R103: SETTLE ends: a guard's settle is followed by step 0 (R132); else VERIFY when the flag is set, and END otherwise. -/
def State.afterSettle (s : State) (n : SiteId) : State :=
  let t := s.modContext n fun c => { c with settleTimer := none }
  if t.contexts[n].isScan then t.stepZero n
  else if flagVerify t.contexts[n].flags then t.startSensing n (t.verifySetOf n)
  else t.finishOrder n .ok

/-! ## SETTLE, MAKE, GAP and BREAK (R100–R103) -/

/-- R103: SETTLE is entered; a settle of 0 ends at its entry. -/
def State.enterSettle (s : State) (n : SiteId) : State :=
  let settle := match s.plans[n] with
    | some plan => plan.settle
    | none => 0
  let t := if s.contexts[n].isScan then s else s.setPhase n .settle
  if settle = 0 then t.afterSettle n else t.modContext n fun c => { c with settleTimer := some (s.timer settle) }

/-- R102: MAKE is entered: the first closing wave of every bay with closings falls due, by ascending bay address; with C empty
it is passed at its entry. A scan's guard path passes through it in scan phase GUARD (R132). -/
def State.enterMake (s : State) (n : SiteId) : State :=
  match s.plans[n] with
  | none => s
  | some plan =>
    let bays := (List.finRange 8).filter fun b => !plan.closingWaves[b].isEmpty
    let t := if s.contexts[n].isScan then s else s.setPhase n .make
    if bays.isEmpty then t.enterSettle n else bays.foldl (fun u b => u.startBayMake n b plan.closingWaves[b]) t

/-- R100, R101: BREAK ends: the handover is taken, and GAP follows, or MAKE when the gap is 0. -/
def State.breakEnd (s : State) (n : SiteId) : State :=
  let c := s.contexts[n]
  let t := (s.handover c.disconnect c.connect).modContext n fun c => { c with breakTimers := .replicate 8 .absent }
  match s.plans[n] with
  | none => t
  | some plan =>
    if plan.gap = 0 then t.enterMake n
    else t.modContext n fun c => { c with phase := .gap, gapTimer := some (s.timer plan.gap) }

/-- A phase timer that no longer keeps its phase open. -/
def PhaseTimer.over : PhaseTimer → Bool
  | .absent | .expired => true
  | .notStarted | .running _ => false

/-- R100: a bay's break has ended; at the last one BREAK ends. In a scan the step's break ends (R133), or the guard's disconnect
is complete (R139). -/
def State.breakExpired (s : State) (n : SiteId) (b : BayId) : State :=
  let t := s.modContext n fun c => { c with breakTimers := setAt c.breakTimers b .expired }
  if allAt t.contexts[n].breakTimers PhaseTimer.over then
    match t.contexts[n].scanPhase with
    | .stepBreak => t.stepBreakEnd n
    | .guardOff => t.finishOrder n .ok
    | .none | .claim | .guard | .stepGap | .stepMake | .stepSettle | .await | .cleanup | .finish => t.breakEnd n
  else t

/-- R101: the gap has passed; MAKE follows. In a scan the step's closing waves fall due (R133). -/
def State.gapExpired (s : State) (n : SiteId) : State :=
  let t := s.modContext n fun c => { c with gapTimer := none }
  if t.contexts[n].scanPhase = .stepGap then t.stepGapEnd n else t.enterMake n

/-- R97: a spacing timer has run; the bay's next closing wave falls due. -/
def State.spacingExpired (s : State) (n : SiteId) (b : BayId) : State :=
  (s.modContext n fun c => { c with spacingTimers := setAt c.spacingTimers b none }).nextClosingDue n b

/-- R102: a bay's make has ended; at the last one SETTLE begins. In a scan step the settle operand runs (R133). -/
def State.makeExpired (s : State) (n : SiteId) (b : BayId) : State :=
  let t := s.modContext n fun c => { c with makeTimers := setAt c.makeTimers b .expired }
  if allAt t.contexts[n].makeTimers PhaseTimer.over then
    if t.contexts[n].scanPhase = .stepMake then t.stepSettle n else t.enterSettle n
  else t

/-! ## The planning event (R79, R85, R86) -/

/-- The budget of a context's order; only a SWITCH has one. -/
def Context.budget (c : Context) : Nat :=
  match c.order with
  | some o => if o.kind = .switch then (switchOperands o.operands).budget else 0
  | none => 0

/-- R78, R79: a plan fills the context's slot, and P is kept for the result. -/
def State.keepPlan (s : State) (n : SiteId) (plan : Plan) : State :=
  (s.setPlan n (some plan)).modContext n fun c => { c with acc := { c.acc with planned := plan.planned } }

/-- R86: an accepted plan: the order passes its checks and every opening wave falls due; with O empty BREAK ends at acceptance. -/
def State.acceptPlan (s : State) (n : SiteId) (plan : Plan) : State :=
  let t := s.modContext n fun c => { c with phase := .break, passed := true }
  if plan.openingWaves.isEmpty then t.breakEnd n else plan.openingWaves.foldl (fun u w => u.startBayBreak n w) t

/-- R79: the planning event of a SWITCH or a PARK. -/
def State.planOrder (s : State) (n : SiteId) : State :=
  let c := s.contexts[n]
  let (plan, failing) := s.makePlan (s.openingParts c.disconnect c.connect) (s.closingParts c.connect) c.connect c.budget
  let t := (s.setPhase n .plan).keepPlan n plan
  match plan.outcome with
  | some code => t.takeEnding n code failing
  | none => t.acceptPlan n plan

/-- R132: the planning event of a scan's guard path, taken at the grant. An accepted plan has the scan pass its checks. -/
def State.planGuard (s : State) (n : SiteId) : State :=
  let c := s.contexts[n]
  let (plan, failing) := s.makePlan [] (s.closingParts c.connect) c.connect 0
  let t := (s.setScanPhase n .guard).keepPlan n plan
  match plan.outcome with
  | some code => t.takeEnding n code failing
  | none => (t.modContext n fun c => { c with passed := true }).enterMake n

/-- R68: the switch context of a granted claim goes on: to the planning event, or to a scan's guard or step 0. -/
def State.afterGrant (s : State) (n : SiteId) : State :=
  let c := s.contexts[n]
  if c.isScan then
    if c.connect.isEmpty then (s.modContext n fun c => { c with passed := true }).stepZero n else s.planGuard n
  else s.planOrder n

/-! ## Walks (R70, R71) -/

/-- R71: each release and each append is followed by one walk; the contexts it grants go on one after another, in the order of
their grants (DEDUCED, log 8). `fuel` bounds the number of walks and grants. -/
def State.runWalks : Nat → List SiteId → State → State
  | 0, _, s => s
  | fuel + 1, granted, s =>
    if s.arbiter.walkOwed then
      let (t, more) := s.walk
      State.runWalks fuel (granted ++ more) t
    else
      match granted with
      | [] => s
      | n :: rest => State.runWalks fuel rest (s.afterGrant n)

/-- The walks that are owed are run. An entry is granted once, and a grant brings at most one release. -/
def State.settleWalks (s : State) : State := State.runWalks (2 * s.arbiter.waiting.length + 3) [] s

/-! ## Acknowledgements (R11, R99) -/

/-- R11, R12, R144–R146: the image, the busy window, the wear and the marks that an acknowledged wave gives, and the WEAR cause. -/
def State.waveApplied (s : State) (w : Wave) : State :=
  let t := ((s.applyWave w).addWaveWear w).setWindow w
  if w.relays.any (s.crosses w) then t.raise causeWear else t

/-- R99, R116: the counts and flags that an acknowledged wave gives its order. -/
def Accumulators.addWave (acc : Accumulators) (w : Wave) (worn suspect : Bool) : Accumulators :=
  { acc with
    waves := acc.waves + 1
    closed := acc.closed + if w.closing then w.relays.length else 0
    opened := acc.opened + if w.closing then 0 else w.relays.length
    hotOps := acc.hotOps + w.hot.length
    hot := acc.hot || acc.hotOps + w.hot.length != 0
    worn := acc.worn || worn
    suspect := acc.suspect || suspect }

/-- R99: the counts of a context's acknowledged wave, read from the marks after its wear. -/
def State.countWave (s : State) (n : SiteId) (w : Wave) : State :=
  s.modContext n fun c =>
    { c with acc := c.acc.addWave w (w.relays.any s.isWorn) (w.closing && w.relays.any s.isSuspect) }

/-- R138, R139: a cleanup wave is acknowledged: its break hold runs, unless an abort has reached the scan. -/
def State.cleanupAcked (s : State) (n : SiteId) (w : Wave) : State :=
  if s.contexts[n].abortTaken then s.proceedEnding n
  else if w.span = 0 then s.afterCleanup n
  else s.modContext n fun c => { c with cleanupHold := some (s.timer w.span) }

/-- R99: the break timer, the spacing timer or the make timer that an acknowledgement starts; a time of 0 has run at once (R8). -/
def State.startWaveTimer (s : State) (n : SiteId) (w : Wave) : State :=
  if w.closing then
    if s.contexts[n].nextClosings[w.bay].isEmpty then
      if w.span + w.bounce = 0 then s.makeExpired n w.bay
      else s.modContext n fun c =>
        { c with makeTimers := setAt c.makeTimers w.bay (.running (s.timer (w.span + w.bounce))) }
    else if w.span = 0 then s.spacingExpired n w.bay
    else s.modContext n fun c => { c with spacingTimers := setAt c.spacingTimers w.bay (some (s.timer w.span)) }
  else if w.span = 0 then s.breakExpired n w.bay
  else s.modContext n fun c => { c with breakTimers := setAt c.breakTimers w.bay (.running (s.timer w.span)) }

/-- R99, R106: what the acknowledgement of a wave of a context does to its order. The timers that it would start are not started
once an ending is present. -/
def State.contextAcked (s : State) (n : SiteId) (w : Wave) : State :=
  let t := s.countWave n w
  if w.source = .cleanup then t.cleanupAcked n w
  else if t.contexts[n].ending.isSome then t.proceedEnding n
  else t.startWaveTimer n w

/-! ## Sense (R147, R148) -/

/-- R148: the mismatch list with one more entry, at its place in ascending relay number. -/
def insertMismatch (m : Mismatch) : List Mismatch → List Mismatch
  | [] => [m]
  | x :: xs => if m.relay < x.relay then m :: x :: xs else if m.relay = x.relay then m :: xs else x :: insertMismatch m xs

/-- R147, R148: a mismatch is counted and listed, and the SUSPECT flag set. The list keeps the eight lowest relay numbers. -/
def Accumulators.addMismatch (acc : Accumulators) (m : Mismatch) : Accumulators :=
  { acc with
    mismatchCount := min (acc.mismatchCount + 1) 255
    mismatches := (insertMismatch m acc.mismatches).take 8
    suspect := true }

/-- The sensed state of a relay: its bit in the sensed word of its group. -/
def sensedState (groups : List Nat) (words : List Byte) (r : RelayNo) : Bool :=
  match groups.findIdx? fun g => g == relayGroup r with
  | some i => (words.getD i 0).getLsbD (relayIndex r % 8)
  | none => false

/-- R147: one relay of the verify set is compared. -/
def State.compareRelay (s : State) (n : SiteId) (r : RelayNo) (sensed : Bool) : State :=
  let expected := s.isClosed r
  if sensed = expected then s.setSuspect r false
  else
    (s.setSuspect r true).modContext n fun c =>
      { c with acc := c.acc.addMismatch { relay := r, expected := expected, sensed := sensed } }

/-- R147: the relays of the verify set in a bay are compared with the sensed words. -/
def State.compareSense (s : State) (n : SiteId) (b : BayId) (groups : List Nat) (words : List Byte) : State :=
  (inBay b s.contexts[n].verifySet).foldl (fun t r => t.compareRelay n r (sensedState groups words r)) s

/-- R104, R110: after a SENSE reply: an ending present goes on; at the last reply the order ends. -/
def State.afterSense (s : State) (n : SiteId) : State :=
  let c := s.contexts[n]
  if c.ending.isSome then s.proceedEnding n
  else if c.senseDue.isEmpty then s.finishOrder n (if c.acc.mismatchCount = 0 then .ok else .senseMismatch)
  else s

end Sys2Proof.Machine
end

