-- ==== Sys2Proof/Machine/Orders.lean ====
section
/-! DEFINITION. Orders: how a switch context starts a SWITCH, PARK, VERIFY or SCAN, how the service lane runs its orders, and how
LANE_SKIP, LANE_RESET and PARK_ALL reach a lane and its order. -/

namespace Sys2Proof.Machine

/-! ## Claims of an order (R64–R68) -/

/-- R68: a claim granted at once: the rows take their holders and the context goes on. -/
def State.grantNow (s : State) (n : SiteId) (rows : List RowId) : State := (s.grantRows n rows).afterGrant n

/-- R67: the fate of a claim that has passed its conflict check. -/
def State.decideClaim (s : State) (n : SiteId) (rows : List RowId) : State :=
  match s.claimFate n rows with
  | .granted => s.grantNow n rows
  | .busy => s.takeEnding n .rowBusy none
  | .waits => s.appendClaim n rows

/-! ## The site orders -/

/-- The context takes the order that its lane hands it (R96). -/
def State.takeOrder (s : State) (n : SiteId) (o : Order) : State :=
  s.modContext n fun _ => { Context.reset with order := some o }

/-- R27: the named paths of a context, in PENDING. -/
def State.nameFor (s : State) (n : SiteId) (disconnect connect : List PathId) : State :=
  (s.namePaths (disconnect ++ connect)).modContext n fun c => { c with disconnect := disconnect, connect := connect }

/-- R27, R64, R65, R67: a SWITCH is validated and makes its claim. -/
def State.startSwitch (s : State) (n : SiteId) (ops : SwitchOperands) : State :=
  if 8 < ops.disconnectCount ∨ 8 < ops.connectCount ∨ (ops.disconnectCount = 0 ∧ ops.connectCount = 0) then
    s.takeEnding n .badOperand none
  else
    match s.checkIds n [] (listPositions ops.disconnect ops.connect) with
    | some (code, i) => s.takeEnding n code (some i)
    | none =>
      let t := (s.nameFor n ops.disconnect ops.connect).setPhase n .claim
      match t.conflictAt n ops.disconnect [] ops.connect 0 with
      | some i => t.takeEnding n .rowConflict (some (8 + i))
      | none => t.decideClaim n (t.switchClaim ops.disconnect ops.connect)

/-- R28, R109: a PARK drops RDY and names the connected paths of its site; with none it ends at once. Its claim is empty. -/
def State.startPark (s : State) (n : SiteId) : State :=
  let t := s.setRdy n false
  let ids := t.connectedPaths n
  if ids.isEmpty then t.finishOrder n .ok else ((t.nameFor n ids []).setPhase n .claim).planOrder n

/-- R110: a VERIFY order forms its verify set, and needs every bay of it ONLINE. -/
def State.startVerify (s : State) (n : SiteId) : State :=
  let set := ascending ((s.connectedPaths n).flatMap s.relaySet)
  if (baysOf set).all s.bayOnline then s.startSensing n set else s.takeEnding n .bayUnavailable none

/-! ### SCAN (R128–R130) -/

/-- R129: column i of the sequence lies in 0–511 and is mapped to the site. -/
def State.scanColumnOk (s : State) (n : SiteId) (ops : ScanOperands) (i : Nat) : Bool :=
  decide (0 ≤ ops.columnInt i) && decide (ops.columnInt i ≤ 511) && s.cfg.columns[ops.column i] == some n

/-- The columns of the sequence. -/
def ScanOperands.sequence (ops : ScanOperands) : List ColumnId := (List.range ops.count).map ops.column

/-- R129: the relays that a scan would close. -/
def ScanOperands.closings (ops : ScanOperands) : List RelayNo :=
  ops.sequence.map (crosspoint ops.rowId) ++ ops.sequence.map fun c => isolation (columnBay c) ops.rowId

/-- R128, R129: the operand and range checks of a scan, in order. -/
def State.scanRangeFailure (s : State) (n : SiteId) (ops : ScanOperands) : Option (Code × Option Nat) :=
  if ops.inRange then
    if s.cfg.rows[ops.rowId].owner ≠ none ∧ s.cfg.rows[ops.rowId].owner ≠ some n then some (.scanRange, none)
    else
      match (List.range ops.count).find? fun i => !s.scanColumnOk n ops i with
      | some i => some (.scanRange, some i)
      | none => if ops.closings.any s.isRetired then some (.relayRetired, none) else none
  else some (.badOperand, none)

/-- R130: the validation of a scan's guard path, at failing index 8. -/
def State.guardFailure (s : State) (n : SiteId) (guard : Option PathId) : Option (Code × Nat) :=
  match guard with
  | some g => s.checkIds n [] [(8, g)]
  | none => none

/-- R130: the bay check and the claim of a scan. -/
def State.claimScan (s : State) (n : SiteId) (ops : ScanOperands) : State :=
  if (ops.sequence.map columnBay).all s.bayOnline then
    let t := s.setScanPhase n .claim
    match t.scanConflict n ops.rowId ops.guard with
    | some failing => t.takeEnding n .rowConflict failing
    | none => t.decideClaim n (t.scanClaim ops.rowId ops.guard)
  else s.takeEnding n .bayUnavailable none

/-- R128–R130: a SCAN is checked, its guard path validated, and its claim made. -/
def State.startScan (s : State) (n : SiteId) (ops : ScanOperands) : State :=
  match s.scanRangeFailure n ops with
  | some (code, failing) => s.takeEnding n code failing
  | none =>
    match s.guardFailure n ops.guard with
    | some (code, i) => s.takeEnding n code (some i)
    | none => (s.nameFor n [] ops.guard.toList).claimScan n ops

/-- R96: the context takes an accepted order of its lane. -/
def State.startSiteOrder (s : State) (n : SiteId) (o : Order) : State :=
  let t := s.takeOrder n o
  match o.kind with
  | .switch => t.startSwitch n (switchOperands o.operands)
  | .park => t.startPark n
  | .verify => t.startVerify n
  | .scan => t.startScan n (scanOperands o.operands)
  | .define | .undefine | .wearSave | .wearLoad | .wearClear => t

/-! ## The service orders (R23, R26, R150–R152) -/

/-- The service lane's order reports its end (R50); it has no counts. -/
def State.endService (s : State) (code : Code) (failing : Option Nat) : State :=
  { s with service := .reset }.endOrder serviceLane code (accFailing failing) 0 0

/-- R150, R151, R175: a service order that a memory error has failed; its MEMORY cause waits for the record's state write. -/
def State.endServiceMemory (s : State) (failing : Nat) : State :=
  (s.modLane serviceLane fun l => { l with memoryOwed := true }).endService .memory (some failing)

/-- The service block issues its next access. -/
def State.serviceIssue (s : State) (order : ServiceOrder) (req : MemReq) : State :=
  { s with service := { s.service with order := order, access := some (s.newAccess req) } }.tagTaken

/-- R23: entry `k` of a definition list is read; its address is taken modulo 2^64 (DEDUCED, log 49). -/
def State.readEntry (s : State) (list : Addr) (count k : Nat) : State :=
  s.serviceIssue (.define list count k) (.read (list + BitVec.ofNat 64 (40 * k)) 40)

/-- R150: transfer `j` of WEAR_SAVE is issued, with the counters as they stand. -/
def State.saveTransfer (s : State) (j : Nat) : State :=
  s.serviceIssue (.wearSave j) (.write (wearTransferAddr s.health.wearArea j) (s.wearTransfer j))

/-- R151: transfer `j` of WEAR_LOAD is read. -/
def State.readTransfer (s : State) (j : Nat) : State :=
  s.serviceIssue (.wearLoad j) (.read (wearTransferAddr s.health.wearArea j) 64)

/-- R23: DEFINE. -/
def State.startDefine (s : State) (list : Addr) (count : Nat) : State :=
  if count = 0 ∨ 256 < count then s.endService .badOperand none else s.readEntry list count 0

/-- R26: UNDEFINE, whose whole range is passed through in one event. -/
def State.startUndefine (s : State) (first count : Nat) : State :=
  if count = 0 ∨ 256 < count ∨ 256 < first + count then s.endService .badOperand none
  else
    match s.undefineFrom first count with
    | (t, some id) => t.endService .pathBusy (some id)
    | (t, none) => t.endService .ok none

/-- R152: WEAR_CLEAR checks its operands; the clear itself is an event of its own. -/
def State.startWearClear (s : State) (first count : Nat) : State :=
  if count = 0 ∨ 8320 < first + count then s.endService .badOperand none
  else { s with service := { s.service with order := .wearClear first count } }

/-- The service lane hands an accepted order to its block. -/
def State.startServiceOrder (s : State) (kind : OrderKind) (ops : List Byte) : State :=
  match kind with
  | .define => s.startDefine (le64 ops 0) (le16 ops 8).toNat
  | .undefine => s.startUndefine (le16 ops 0).toNat (le16 ops 2).toNat
  | .wearSave => s.saveTransfer 0
  | .wearLoad => s.readTransfer 0
  | .wearClear => s.startWearClear (le32 ops 0).toNat (le32 ops 4).toNat
  | .switch | .park | .verify | .scan => s

/-- The access of the service block has been completed. -/
def State.serviceAccessDone (s : State) : State := { s with service := { s.service with access := none } }

/-- R23–R25, R57: the read of entry `k` has completed. An abort is taken between two entries. -/
def State.entryRead (s : State) (list : Addr) (count k : Nat) (result : Option (List Byte)) : State :=
  let t := s.serviceAccessDone
  match result with
  | none => t.endServiceMemory k
  | some bytes =>
    match t.takeEntry (definitionEntry bytes) with
    | (u, some code) => u.endService code (some k)
    | (u, none) =>
      if k + 1 = count then u.endService .ok none
      else if s.service.abort then u.endService .aborted (some (k + 1))
      else u.readEntry list count (k + 1)

/-- The first relay that a wear order stopped after transfer `j` has not reached; none after the last transfer (R150, R151). -/
def nextTransferIndex (j : Nat) : Option Nat := if j + 1 = Config.wearTransfers then none else some (16 * (j + 1))

/-- R150: the write of transfer `j` has completed. -/
def State.saveDone (s : State) (j : Nat) (ok : Bool) : State :=
  let t := s.serviceAccessDone
  if s.service.abort then (t.raiseMemoryUnless ok).endService .aborted (nextTransferIndex j)
  else if ok then if j + 1 = Config.wearTransfers then t.endService .ok none else t.saveTransfer (j + 1)
  else t.endServiceMemory (16 * j)

/-- R151: the read of transfer `j` has completed. -/
def State.loadDone (s : State) (j : Nat) (result : Option (List Byte)) : State :=
  let t := s.serviceAccessDone
  match result with
  | some bytes =>
    let u := t.loadTransfer j bytes
    if s.service.abort then u.endService .aborted (nextTransferIndex j)
    else if j + 1 = Config.wearTransfers then u.endService .ok none
    else u.readTransfer (j + 1)
  | none =>
    if s.service.abort then (t.raise causeMemory).endService .aborted (some (16 * j)) else t.endServiceMemory (16 * j)

/-! ## Aborts (R57, R73, R113, R140) -/

/-- R113, R140: the abort of a context's order. An abort of PARK_ALL or DISABLE (`park`) drops RDY (R108) and leaves the order
unjudged (R105), unless an ending of its own stands already (DEDUCED, log 55). -/
def State.abortContext (s : State) (n : SiteId) (park : Bool) : State :=
  let t := if park then s.setRdy n false else s
  let u := (t.removeClaim n).modContext n fun c =>
    { c with abortTaken := true, unjudged := c.unjudged || (park && c.ending.isNone) }
  if u.contexts[n].ending.isNone then u.takeEnding n .aborted none else u.proceedEnding n

/-- R57, R152: the abort of the service lane's order: a clear that has not been taken ends at once, and the other orders take the
abort when their access completes. -/
def State.abortService (s : State) : State :=
  match s.service.order with
  | .none => s
  | .wearClear _ _ => s.endService .aborted none
  | .define _ _ _ | .wearSave _ | .wearLoad _ => { s with service := { s.service with abort := true } }

/-- The abort of the running order of a lane that has not reported its end. -/
def State.abortOrder (s : State) (n : LaneId) (park : Bool) : State :=
  match laneSite n with
  | some site => if s.contexts[site].active then s.abortContext site park else s
  | none => s.abortService

/-! ## Lane commands (R57, R58, R60) -/

/-- R57: LANE_SKIP on one lane. A SKIP that arrives while the writes of an order start are in flight waits for them (R49); one that
arrives after the order has reported its end has no effect. -/
def State.skipLane (s : State) (n : LaneId) : State :=
  let l := s.lanes[n]
  match l.state with
  | .running => if l.access.isSome then s else s.abortOrder n false
  | .offset | .fetching =>
    match l.access with
    | some a =>
      if (a.op = .startResult ∨ a.op = .taken) ∧ l.deferred = .none then s.setDeferred n .skip else s
    | none => if l.state = .offset then s.abortOffset n else s
  | .idle | .halted | .disabled => s

/-- R58: LANE_RESET on one lane. -/
def State.resetLaneCommand (s : State) (n : LaneId) : State :=
  let l := s.lanes[n]
  match l.state with
  | .running => if l.access.isSome then s.setDeferred n .reset else (s.setDeferred n .reset).abortOrder n false
  | .offset => if l.access.isSome then s.setDeferred n .reset else (s.setDeferred n .reset).abortOffset n
  | .fetching => if l.access.isSome then s.setDeferred n .reset else s.resetLane n
  | .idle | .halted => s.resetLane n
  | .disabled => s

/-- R59: LANE_RESUME on a HALTED lane. -/
def State.resumeLane (s : State) (n : LaneId) : State := s.enterLane n .idle

/-- R60: PARK_ALL and DISABLE on one lane. -/
def State.parkLane (s : State) (n : LaneId) : State :=
  let l := s.lanes[n]
  match l.state with
  | .running => if l.access.isSome then s.setDeferred n .park else (s.setDeferred n .park).abortOrder n true
  | .offset => if l.access.isSome then s.setDeferred n .park else (s.setDeferred n .park).abortOffset n
  | .fetching => if l.access.isSome then s.setDeferred n .park else s.parkHalt n
  | .idle | .halted => s.parkHalt n
  | .disabled => s

/-! ## The kind check (R40, R49) -/

/-- A lane accepts a kind (R40). -/
def laneAccepts (n : LaneId) (kind : OrderKind) : Bool := (laneSite n).isSome == kind.forSite

/-- The order that the lane hands over (R95). -/
def Lane.order (l : Lane) (kind : OrderKind) (bytes : List Byte) : Order :=
  { kind := kind, flags := recordFlags bytes, operands := recordOperands bytes, hotWait := l.desc.hotWait }

/-- R49 step 5: an accepted kind is handed to the lane's switch context or to its service block. -/
def State.handOver (s : State) (n : LaneId) (kind : OrderKind) (bytes : List Byte) : State :=
  match laneSite n with
  | some site => s.startSiteOrder site (s.lanes[n].order kind bytes)
  | none => s.startServiceOrder kind (recordOperands bytes)

/-- The failing index of a service order that an abort ends before its first entry, id or transfer (R57, R150, R151). -/
def untouchedIndex (kind : OrderKind) (ops : List Byte) : Option Nat :=
  match kind with
  | .define | .wearSave | .wearLoad => some 0
  | .undefine => some (le16 ops 0).toNat
  | .switch | .park | .verify | .scan | .wearClear => none

/-- R49: a command that waited for the writes of the order start acts on the order that has just begun: it ends ABORTED with
nothing claimed or planned (R113). -/
def State.abortAtStart (s : State) (n : LaneId) (kind : OrderKind) (bytes : List Byte) : State :=
  (s.dropLaneRdy n).endOrder n .aborted (accFailing (untouchedIndex kind (recordOperands bytes))) 0 0

/-- R40: an order of a kind that the lane does not accept ends at once. -/
def State.badKind (s : State) (n : LaneId) : State := (s.dropLaneRdy n).endOrder n .badKind (accFailing none) 0 0

/-- R40, R49 step 5: the lane enters RUNNING and checks the kind of its held record. -/
def State.checkKind (s : State) (n : LaneId) (bytes : List Byte) : State :=
  let t := s.enterLane n .running
  match OrderKind.ofCode (recordKind bytes) with
  | some kind =>
    if laneAccepts n kind then
      match s.lanes[n].deferred with
      | .none => t.handOver n kind bytes
      | .skip | .reset | .park => t.abortAtStart n kind bytes
    else t.badKind n
  | none => t.badKind n

/-- R49 step 5: the TAKEN write has completed. -/
def State.takenDone (s : State) (n : LaneId) (ok : Bool) : State :=
  let t := s.laneAccessDone n
  if ok then
    match t.lanes[n].held with
    | some h => t.checkKind n h.bytes
    | none => t.checkKind n []
  else t.startWriteFailed n

end Sys2Proof.Machine
end

