-- ==== Sys2Proof/Machine/Frames.lean ====
section
/-! DEFINITION. Bay link frames (section 12.6): the octets of every frame the part sends, and which reply a good answer is (R156,
R157, R181). -/

namespace Sys2Proof.Machine

/-- The kind codes of the header octet. -/
def FrameBody.kindCode : FrameBody → Nat
  | .probe => 1
  | .wave _ _ => 2
  | .sense _ => 3
  | .status => 4
  | .clear => 5
  | .poll => 6

/-- The header octet: the bay address in bits 2–0 and the frame kind in bits 7–3. A POLL carries address 0. -/
def frameHeader (bay : BayId) (body : FrameBody) : Byte := BitVec.ofNat 8 (bay.val + 8 * body.kindCode)

/-- Table 12-14: the payload that the part sends. -/
def FrameBody.payload : FrameBody → List Byte
  | .wave _ words => BitVec.ofNat 8 words.length :: words.flatMap fun p => [BitVec.ofNat 8 p.1, p.2]
  | .sense groups => BitVec.ofNat 8 groups.length :: groups.map (BitVec.ofNat 8)
  | .probe | .status | .clear | .poll => []

/-- R156: the check octet is the exclusive-or of every octet before it. -/
def checkOctet (octets : List Byte) : Byte := octets.foldl (· ^^^ ·) 0

/-- R156: a frame as its octets: header, payload, check. -/
def LinkFrame.octets (f : LinkFrame) : List Byte :=
  let before := frameHeader f.bay f.body :: f.body.payload
  before ++ [checkOctet before]

/-- R157: the reply limit of a bay: 10 + 10 × e µs, where e is the reply extension as the part takes it (R2). -/
def State.replyLimit (s : State) (b : BayId) : Nat := 10 + 10 * (clampExtension s.cfg.bays[b].extension).toNat

/-! ## Groups and group words (R7, R98) -/

/-- The coil groups of a wave, in its send order. -/
def Wave.groups (w : Wave) : List Nat := dedup (w.relays.map relayGroup)

/-- R98: the group's eight relay states in the image, with the wave's changes applied. -/
def State.groupWord (s : State) (w : Wave) (g : Nat) : Byte :=
  maskOf 8 fun k =>
    match groupRelay w.bay g k.val with
    | some n => if w.relays.contains n then w.closing else s.isClosed n
    | none => false

/-- R98: one group word for each coil group that holds a relay of the wave, and no other group. -/
def State.composeWave (s : State) (w : Wave) : List (Nat × Byte) := w.groups.map fun g => (g, s.groupWord w g)

/-! ## Replies (R157, R181) -/

/-- The length that a reply to a frame must have. -/
def FrameBody.replyLength : FrameBody → Nat
  | .probe => 5
  | .wave _ _ => 4
  | .sense groups => groups.length + 2
  | .status | .clear => 3
  | .poll => 0

/-- The failure of a reply that is not good, or the event that a good reply is. Every bit that R181 ignores stays in the event's
operands and is dropped where they are read. A CLEAR reply with acknowledgement code 1 is good (R157, R181), and acts as any CLEAR reply
(DEDUCED, log 43). -/
def LinkFrame.replyEvent (f : LinkFrame) (octets : List Byte) : Sum FrameFault Instr :=
  if octets.isEmpty then .inl .noReply
  else if octets.length ≠ f.body.replyLength then .inl .cutShort
  else if byteAt octets (octets.length - 1) ≠ checkOctet octets.dropLast then .inl .badCheck
  else if byteAt octets 0 ≠ frameHeader f.bay f.body then .inl .misaddressed
  else
    match f.body with
    | .probe =>
      if f.owner = .discovery then .inr (.discoveryProbeReply (byteAt octets 1) (byteAt octets 2) (byteAt octets 3))
      else .inr (.reprobeReply (byteAt octets 1) (byteAt octets 2) (byteAt octets 3))
    | .wave _ _ =>
      if byteAt octets 1 = 0 then .inr .waveAck
      else if byteAt octets 1 = 1 then .inr (.waveNak (byteAt octets 2))
      else .inl .badAckCode
    | .sense groups => .inr (.senseReply ((octets.drop 1).take groups.length))
    | .status => .inr (.statusReply (byteAt octets 1))
    | .clear => if byteAt octets 1 = 0 ∨ byteAt octets 1 = 1 then .inr .clearReply else .inl .badAckCode
    | .poll => .inl .misaddressed

/-- R157, R181: the request that a poll slot of bay `k` shows: none without an octet; the request bit of an octet whose check and
address are right; a request otherwise. -/
def slotRequest (k : BayId) (slot : Option Byte) : Bool :=
  match slot with
  | none => false
  | some o =>
    if o.extractLsb' 4 4 = ~~~(o.extractLsb' 0 4) ∧ (o.extractLsb' 1 3).toNat = k.val then o.getLsbD 0 else true

/-- R156, R181: the hold reasons of a reason octet: bits 2–0. -/
def holdReasons (octet : Byte) : BitVec 3 := octet.extractLsb' 0 3

/-- R181: the ready flag is bit 0 of the ready octet. -/
def readyFlag (octet : Byte) : Bool := octet.getLsbD 0

/-- The hold reason COIL_SUPPLY (Table 12-6). -/
def reasonCoilSupply : BitVec 3 := 0b100

end Sys2Proof.Machine
end

