-- ==== Sys2Proof/Machine/Bays.lean ====
section
/-! DEFINITION. The bay table (R155, R159, R160): bay states and their timers, bay status words, and bay drops (R13, R112, R141). -/

namespace Sys2Proof.Machine

/-! ## Bay status words (R160, R178) -/

def State.bayStatusAddr (s : State) (b : BayId) : Addr := s.configBase + BitVec.ofNat 64 (bayStatusOffset b)

/-- The next write of a bay's status word is issued, if one is owed and none is in flight. -/
def State.pumpBay (s : State) (b : BayId) : State :=
  if s.link.bays[b].port.ready then
    (s.modBay b fun bay =>
      { bay with port := bay.port.pump (s.newAccess (.write (s.bayStatusAddr b) (bay.statusWord s.link.rate))) }).tagTaken
  else s

/-- A write of a bay's status word, followed by the causes named. -/
def State.writeBayStatus (s : State) (b : BayId) (causes : BitVec 7) : State :=
  (s.modBay b fun bay => { bay with port := bay.port.owe causes }).pumpBay b

/-- R160: a change of a bay is reported while the device is ENABLED, PARKING or DISABLING: the status word, then the BAY cause. -/
def State.announceBay (s : State) (b : BayId) : State := if s.isOperating then s.writeBayStatus b causeBay else s

/-! ## Bay states (R159, R163, R164) -/

/-- A bay enters a state: the timers that the state does not have stop, and the re-probe timer starts on entry to FAULTED. The
keep-alive timer keeps running across ONLINE and HELD. An ONLINE bay has no recorded reasons (R160). -/
def Bay.enter (bay : Bay) (state : BayState) (reasons : BitVec 3) (now : Time) : Bay :=
  match state with
  | .online => { bay with state := .online, reasons := 0, reprobe := none, reprobeDue := false }
  | .held => { bay with state := .held, reasons := reasons, reprobe := none, reprobeDue := false }
  | .faulted =>
    { bay with
      state := .faulted, reasons := reasons, keepAlive := none, keepAliveDue := false
      reprobe := some now, reprobeDue := false }
  | .absent =>
    { bay with
      state := .absent, reasons := reasons, keepAlive := none, keepAliveDue := false
      reprobe := none, reprobeDue := false }
  | .probing =>
    { bay with
      state := .probing, reasons := reasons, keepAlive := none, keepAliveDue := false
      reprobe := none, reprobeDue := false }

/-- R13, R18: a bay enters a state; in any state but ONLINE its relays are OPEN in the image and its busy window is CLEAR. -/
def State.enterBay (s : State) (b : BayId) (state : BayState) (reasons : BitVec 3) : State :=
  let t := s.modBay b fun bay => bay.enter state reasons s.now
  if state = .online then t else t.dropImage b

/-- R163: the keep-alive timer of a bay starts. -/
def State.startKeepAlive (s : State) (b : BayId) : State :=
  s.modBay b fun bay => { bay with keepAlive := some s.now, keepAliveDue := false }

/-- The bay answers frames: it is ONLINE or HELD. -/
def BayState.answering : BayState → Bool
  | .online | .held => true
  | .absent | .probing | .faulted => false

/-! ## Bay drops (R13, R33, R112, R141) -/

/-- R112: a relay of the order's O or C, of the relay set of a path it names, or of its verify set lies in the bay. -/
def State.orderTouches (s : State) (n : SiteId) (b : BayId) : Bool :=
  let c := s.contexts[n]
  (match s.plans[n] with
    | some plan => !(inBay b plan.opening).isEmpty || !(inBay b plan.closing).isEmpty
    | none => false) ||
    c.named.any (fun p => s.relaySetInBay p b) || !(inBay b c.verifySet).isEmpty

/-- R141: the bay of the current column, from the start of step 0 until the cleanup wave has resolved, or the bay of the new column
of a step in its break. -/
def Context.scanTouches (c : Context) (b : BayId) : Bool :=
  let current := match c.column with
    | some col => columnBay col == b
    | none => false
  match c.scanPhase with
  | .stepBreak => current || columnBay (c.scanOps.column c.stepIndex) == b
  | .stepGap | .stepMake | .stepSettle | .await => current
  | .cleanup => current && c.cleanupHold.isNone
  | .none | .claim | .guard | .guardOff | .finish => false

/-- R112, R141: a bay drop reaches the order of a context. -/
def State.touches (s : State) (n : SiteId) (b : BayId) : Bool :=
  let c := s.contexts[n]
  match c.order with
  | none => false
  | some o =>
    match o.kind with
    | .switch | .park => c.passed && s.orderTouches n b
    | .verify => !(inBay b c.verifySet).isEmpty
    | .scan => c.passed && (c.connect.any (fun p => s.relaySetInBay p b) || c.scanTouches b)
    | .define | .undefine | .wearSave | .wearLoad | .wearClear => false

/-- R110, R112: the code of a drop; a VERIFY order takes BAY_UNAVAILABLE. -/
def Context.dropCode (c : Context) (code : Code) : Code :=
  match c.order with
  | some o => if o.kind = .verify then .bayUnavailable else code
  | none => code

/-- R138, R172: a cleanup wave or a park wave whose bay has left ONLINE before its grant is withdrawn and counts as resolved. -/
def State.withdrawWaves (s : State) (b : BayId) : State :=
  { s with
    contexts := mapAt s.contexts fun _ c =>
      { c with due := c.due.filter fun w => !(w.source == .cleanup && w.bay == b) }
    link := { s.link with parkDue := s.link.parkDue.filter fun w => w.bay != b } }

/-- R112: an order that the drop reaches takes its ending; an ending that waited for a wave now withdrawn goes on. The release that
follows is walked before the next order is taken (DEDUCED, log 7). -/
def State.dropReaches (s : State) (reached : Bool) (code : Code) (n : SiteId) : State :=
  let c := s.contexts[n]
  if c.active then
    if c.ending.isNone then (if reached then (s.takeEnding n (c.dropCode code) none).settleWalks else s)
    else (s.proceedEnding n).settleWalks
  else s

/-- R13: a bay drop, taken as one event: the image, the path table, the orders in flight, and then the status word and the BAY
cause. -/
def State.bayDrop (s : State) (b : BayId) (state : BayState) (reasons : BitVec 3) (code : Code) : State :=
  let t := ((s.enterBay b state reasons).markBroken b).withdrawWaves b
  let reached : Vector Bool 8 := Vector.ofFn fun n => t.touches n b
  ((List.finRange 8).foldl (fun u n => u.dropReaches reached[n] code n) t).announceBay b

/-- R159: a bay that leaves ONLINE or HELD for FAULTED. It keeps the reasons it had (R160). From ONLINE that is a bay drop. From HELD,
whose drop has been taken, only the status word and the BAY cause follow: no order in flight is reached (DEDUCED, log 47). -/
def State.bayFaults (s : State) (b : BayId) : State :=
  if s.link.bays[b].state = .online then s.bayDrop b .faulted s.link.bays[b].reasons .bayFault
  else (s.enterBay b .faulted s.link.bays[b].reasons).announceBay b

/-- R159: a bay enters HELD from ONLINE. -/
def State.bayHolds (s : State) (b : BayId) (reasons : BitVec 3) : State := s.bayDrop b .held reasons .bayHeld

/-- R159, R160: what a STATUS reply does to its bay. -/
def State.takeReasons (s : State) (b : BayId) (reasons : BitVec 3) : State :=
  match s.link.bays[b].state with
  | .online => if reasons = 0 then s else s.bayHolds b reasons
  | .held =>
    if reasons = 0 then (s.enterBay b .online 0).announceBay b
    else if reasons = s.link.bays[b].reasons then s
    else (s.enterBay b .held reasons).announceBay b
  | .absent | .probing | .faulted => s

end Sys2Proof.Machine
end

