-- ==== Sys2Proof/Machine/Link.lean ====
section
/-! DEFINITION. The bay link (chapter 10): the link arbiter, polls, keep-alives and re-probes, and the resolution of frames. -/

namespace Sys2Proof.Machine

/-! ## The frame on the link -/

/-- R157: the link becomes free. -/
def State.freeLink (s : State) : State := { s with link := { s.link with frame := none } }

def State.setPoll (s : State) (p : PollState) : State := { s with link := { s.link with poll := p } }

/-- R161: a frame is granted: it is on the link, and the keep-alive timer of an ONLINE or HELD bay restarts (R163). -/
def State.sendFrame (s : State) (f : LinkFrame) : State :=
  let t := { s with link := { s.link with frame := some f } }
  if f.owner ≠ .poll ∧ f.owner ≠ .discovery ∧ s.link.bays[f.bay].state.answering = true then
    t.modBay f.bay fun bay => { bay with keepAlive := some s.now }
  else t

/-- A frame whose first attempt has not failed. -/
def newFrame (bay : BayId) (body : FrameBody) (owner : FrameOwner) : LinkFrame :=
  { bay := bay, body := body, owner := owner, repeated := false }

/-! ## What each requester offers (R161) -/

/-- R162: a POLL is pending. -/
def State.pollPending (s : State) : Bool := s.link.srq && s.isOperating && s.link.poll == .idle

/-- R162: the next follow-up of the poll in progress. -/
def State.followUpFrame (s : State) : Option LinkFrame :=
  match s.link.poll with
  | .followUps (b :: _) statusDone =>
    if s.link.bays[b].state.answering && !statusDone then some (newFrame b .status .followUp)
    else some (newFrame b .clear .followUp)
  | .followUps [] _ | .idle | .polling | .lockout _ => none

/-- R163: the first bay whose keep-alive STATUS is due. -/
def State.keepAliveBay (s : State) : Option BayId :=
  (List.finRange 8).find? fun b => s.link.bays[b].keepAliveDue && s.link.bays[b].state.answering

/-- R164: the first bay whose re-probe is due. -/
def State.reprobeBay (s : State) : Option BayId :=
  (List.finRange 8).find? fun b => s.link.bays[b].reprobeDue && s.link.bays[b].state == .faulted

/-- R93, R161: a wave is eligible when its bay is ONLINE and, for a closing wave, when its bay is not busy. -/
def State.waveEligible (s : State) (w : Wave) : Bool := s.bayOnline w.bay && !(w.closing && s.bayBusy w.bay)

/-- A lane frame that a position of the round-robin offers. -/
inductive LaneOffer where
  | wave (w : Wave)
  | sense (b : BayId)
deriving DecidableEq, Repr

/-- R161: a context offers its first eligible frame, in the order in which its frames fell due. -/
def State.contextOffer (s : State) (n : SiteId) : Option LaneOffer :=
  match s.contexts[n].due.find? s.waveEligible with
  | some w => some (.wave w)
  | none => (s.contexts[n].senseDue.find? s.bayOnline).map .sense

/-- R161: what a position of the round-robin offers: contexts 0–7, and PARK_ALL at the ninth. -/
def State.positionOffer (s : State) (p : Fin 9) : Option LaneOffer :=
  match laneSite p with
  | some n => s.contextOffer n
  | none => (s.link.parkDue.find? s.waveEligible).map .wave

/-- R161: the search order: from the position after the pointer round to the pointer itself. -/
def searchOrder (pointer : Fin 9) : List (Fin 9) := (List.range 9).map fun i => Fin.ofNat 9 (pointer.val + 1 + i)

/-- R161: the lane frame that rank 5 grants next. -/
def State.laneFrameOffer (s : State) : Option (Fin 9 × LaneOffer) :=
  (searchOrder s.link.pointer).findSome? fun p => (s.positionOffer p).map fun o => (p, o)

/-! ## Grants (R98, R126, R161) -/

/-- R126: the hot set of a wave without a live check is formed at its grant; any other wave keeps its own (R121). -/
def State.hotAtGrant (s : State) (w : Wave) : Wave :=
  match w.source with
  | .planned => w
  | .cleanup | .park => { w with hot := s.hotRelays w.relays }

/-- The wave leaves the due waves of its context; the first grant of a wave of an order drops RDY (R108). -/
def State.contextWaveGranted (s : State) (n : SiteId) (w : Wave) : State :=
  let t := s.modContext n fun c => { c with due := c.due.erase w, waveGranted := true }
  if s.contexts[n].waveGranted then t else t.setRdy n false

/-- R98: a wave frame is composed at its grant. -/
def State.grantWave (s : State) (owner : FrameOwner) (w : Wave) : State :=
  let sent := s.hotAtGrant w
  s.sendFrame (newFrame w.bay (.wave sent (s.composeWave sent)) owner)

/-- R161: a lane frame is granted, and the pointer moves to its position. -/
def State.grantLaneFrame (s : State) (p : Fin 9) (offer : LaneOffer) : State :=
  let t := { s with link := { s.link with pointer := p } }
  match laneSite p, offer with
  | some n, .wave w => (t.contextWaveGranted n w).grantWave (.context n) w
  | some n, .sense b =>
    (t.modContext n fun c => { c with senseDue := c.senseDue.erase b }).sendFrame
      (newFrame b (.sense (senseGroups b s.contexts[n].verifySet)) (.context n))
  | none, .wave w => { t with link := { t.link with parkDue := t.link.parkDue.erase w } }.grantWave .park w
  | none, .sense _ => s

/-- R161: the ranks. -/
def State.grantByRank (s : State) : State :=
  if s.pollPending then (s.setPoll .polling).sendFrame (newFrame 0 .poll .poll)
  else
    match s.followUpFrame with
    | some f => s.sendFrame f
    | none =>
      match s.keepAliveBay with
      | some b => (s.modBay b fun bay => { bay with keepAliveDue := false }).sendFrame (newFrame b .status .keepAlive)
      | none =>
        match s.reprobeBay with
        | some b => (s.modBay b fun bay => { bay with reprobeDue := false }).sendFrame (newFrame b .probe .reprobe)
        | none =>
          match s.laneFrameOffer with
          | some (p, offer) => s.grantLaneFrame p offer
          | none => s

/-- R165, R166: the bay whose discovery PROBE is granted next. -/
def State.discoveryBay (s : State) : Option BayId :=
  match s.link.discovery.stage with
  | .pass => s.link.discovery.toProbe.head?
  | .waiting => (List.finRange 8).find? fun b => s.link.discovery.waiting.any fun w => w.bay == b && w.due
  | .inactive | .pulse _ => none

/-- A discovery PROBE is granted; the bay leaves the list of those to probe, or is no longer due. -/
def State.grantDiscovery (s : State) (b : BayId) : State :=
  { s with link := { s.link with discovery := { s.link.discovery with
      toProbe := s.link.discovery.toProbe.filter fun x => x != b,
      waiting := s.link.discovery.waiting.map fun (w : WaitingBay) => if w.bay = b then { w with due := false } else w } } }.sendFrame
    (newFrame b .probe .discovery)

/-- R155, R161: the link may carry a frame: it is free, and a rate is set. The rate is unset while the device is DISABLED. -/
def State.linkUsable (s : State) : Bool := s.link.frame.isNone && s.link.rate.isSome

/-- R161, section 10.9: during discovery the link is given to discovery alone. -/
def State.grantLink (s : State) : State :=
  if s.linkUsable then
    if s.link.discovery.stage = .inactive then s.grantByRank
    else
      match s.discoveryBay with
      | some b => s.grantDiscovery b
      | none => s
  else s

/-! ## The poll (R162) -/

/-- R162: the sequence ends; the lockout runs while SRQ is asserted. -/
def State.endPollSequence (s : State) : State := s.setPoll (if s.link.srq then .lockout s.now else .idle)

/-- R162: each requesting bay is treated by its state when its turn comes. -/
def State.followUp (s : State) : List BayId → State
  | [] => s.endPollSequence
  | b :: rest =>
    match s.link.bays[b].state with
    | .online | .held | .absent => s.setPoll (.followUps (b :: rest) false)
    | .probing => s.followUp rest
    | .faulted => (s.modBay b fun bay => { bay with reprobeDue := true }).followUp rest

/-- R162: the first bay of the follow-up list is done. -/
def State.dropFollowUp (s : State) : State :=
  match s.link.poll with
  | .followUps (_ :: rest) _ => s.followUp rest
  | .followUps [] _ | .idle | .polling | .lockout _ => s

/-- R162: the STATUS of the first bay of the follow-up list is done; its CLEAR follows. -/
def State.statusFollowedUp (s : State) : State :=
  match s.link.poll with
  | .followUps bays _ => s.setPoll (.followUps bays true)
  | .idle | .polling | .lockout _ => s

/-- R157, R162: the slot answers of a POLL. -/
def State.slotsRead (s : State) (slots : Vector (Option Byte) 8) : State :=
  if s.link.poll = .polling then s.followUp ((List.finRange 8).filter fun b => slotRequest b slots[b]) else s

/-! ## Resolutions -/

/-- The context that owns a frame goes on with its ending, if it has one (R106). -/
def State.ownerGoesOn (s : State) (owner : FrameOwner) : State :=
  match owner with
  | .context n => s.proceedEnding n
  | .poll | .followUp | .keepAlive | .reprobe | .park | .discovery => s

/-- R11, R99: an ACK to a WAVE. The waves of PARK_ALL belong to no order. -/
def State.ackWave (s : State) (owner : FrameOwner) (w : Wave) : State :=
  let t := s.freeLink.waveApplied w
  match owner with
  | .context n => t.contextAcked n w
  | .poll | .followUp | .keepAlive | .reprobe | .park | .discovery => t

/-- R11, R99: a NAK with HELD to a WAVE: the bay holds with the reasons the NAK carries. -/
def State.nakWave (s : State) (owner : FrameOwner) (b : BayId) (reasons : BitVec 3) : State :=
  (s.freeLink.bayHolds b reasons).ownerGoesOn owner

/-- R104, R147: a SENSE reply: the words are compared, and the order goes on. -/
def State.senseReplied (s : State) (owner : FrameOwner) (b : BayId) (groups : List Nat) (words : List Byte) : State :=
  match owner with
  | .context n => (s.freeLink.compareSense n b groups words).afterSense n
  | .poll | .followUp | .keepAlive | .reprobe | .park | .discovery => s.freeLink

/-- R159–R163: a STATUS reply. -/
def State.statusReplied (s : State) (owner : FrameOwner) (b : BayId) (reasons : BitVec 3) : State :=
  let t := s.freeLink.takeReasons b reasons
  if owner = .followUp then t.statusFollowedUp else t

/-- R157: a final failure outside discovery and re-probes: an ONLINE or HELD bay faults. -/
def State.finalFailure (s : State) (owner : FrameOwner) (b : BayId) : State :=
  let t := s.freeLink
  let u := if t.link.bays[b].state.answering then t.bayFaults b else t
  let v := u.ownerGoesOn owner
  if owner = .followUp then v.dropFollowUp else v

/-- R164: the final failure of a re-probe: the timer restarts from it. A re-probe that fell due while this one was on the link stays due
(DEDUCED, log 57). -/
def State.reprobeFailed (s : State) (b : BayId) : State :=
  if s.link.bays[b].state = .faulted then s.freeLink.modBay b fun bay => { bay with reprobe := some s.now } else s.freeLink

/-- The model reported by a PROBE reply, and the mismatch flag. -/
def State.recordModel (s : State) (b : BayId) (model : Byte) : State :=
  s.modBay b fun bay => { bay with model := model, mismatch := model != s.cfg.bays[b].model }

/-- R164, R166: a not-ready bay reports COIL_SUPPLY. -/
def probeReasons (ready : Bool) (reasons : BitVec 3) : BitVec 3 := if ready then reasons else reasons ||| reasonCoilSupply

/-- R164: a good reply to a re-probe of a FAULTED bay. A bay that becomes HELD by it reaches no order and marks no path: R159 takes the drop
where a bay leaves ONLINE, and R164 names the bay's state and word alone, where R13 and R112, read alone, make every entry to HELD a
drop (DEDUCED, log 47). -/
def State.reprobed (s : State) (b : BayId) (model : Byte) (ready : Bool) (reasons : BitVec 3) : State :=
  let t := s.recordModel b model
  if model ≠ s.cfg.bays[b].model then (t.enterBay b .absent reasons).announceBay b
  else if ready ∧ reasons = 0 then ((t.enterBay b .online 0).startKeepAlive b).announceBay b
  else ((t.enterBay b .held (probeReasons ready reasons)).startKeepAlive b).announceBay b

/-- R164: a re-probe reply, by the state of its bay when it is taken. -/
def State.reprobeReplied (s : State) (b : BayId) (model : Byte) (ready : Bool) (reasons : BitVec 3) : State :=
  let t := s.freeLink
  if t.link.bays[b].state = .faulted then t.reprobed b model ready reasons else t

end Sys2Proof.Machine
end

