-- ==== Sys2Proof/Machine/Device.lean ====
section
/-! DEFINITION. The passages of the device (chapter 11): ENABLE with discovery (sections 10.9 and 11.3), PARK_ALL, DISABLE and the
resets; and how a completion of a memory access, or its timeout, reaches the block that made it (R54). -/

namespace Sys2Proof.Machine

/-! ## Passages -/

/-- The passage goes on to a stage whose memory access is issued now. -/
def State.passageIssue (s : State) (p : Passage) (req : MemReq) : State :=
  { s with host := { s.host with passage := p, access := some (s.newAccess req) } }.tagTaken

/-- The passage goes on to a stage that has no memory access of its own. -/
def State.passageAt (s : State) (p : Passage) : State := { s with host := { s.host with passage := p, access := none } }

/-- A passage ends: the device enters a state, and then a cause is set. -/
def State.passageEnds (s : State) (d : DeviceState) (cause : BitVec 7) : State :=
  { s with host := { s.host with device := d, passage := .idle, access := none } }.raise cause

/-- R171: every lane's status word is written. -/
def State.writeLaneWords (s : State) : State := (List.finRange 9).foldl (fun t n => t.writeLaneStatus n 0) s

/-- R171: every bay's status word is written. -/
def State.writeBayWords (s : State) : State := (List.finRange 8).foldl (fun t b => t.writeBayStatus b 0) s

def State.lanePortsQuiet (s : State) : Bool := allAt s.lanes fun l => l.port.quiet

def State.bayPortsQuiet (s : State) : Bool := allAt s.link.bays fun b => b.port.quiet

/-! ## A failed ENABLE (R171) -/

/-- R171: a failure of ENABLE: the code goes into STATUS, every bay becomes ABSENT with its timers stopped, the rate becomes unset,
the copies take their reset values, and the device enters DISABLED before the ENABLE cause. -/
def State.enableFails (s : State) (code : EnableFailure) : State :=
  ({ s with
      host := { s.host with failure := code }
      cfg := .reset
      image := .reset
      health := { s.health with wearArea := 0, staged := .replicate 4 .reset }
      lanes := mapAt s.lanes fun _ l => { l with desc := .reset }
      link := { s.link with
        rate := none, discovery := .reset
        bays := mapAt s.link.bays fun _ bay => bay.enter .absent bay.reasons s.now } }.refreshMarks).passageEnds .disabled
    causeEnabled

/-! ## The end of ENABLE (R149, R171) -/

/-- R41: the cursor that a head address gives. -/
def headCursor (head : Addr) : Cursor := if head = 0 then .empty else .next head

/-- R60: a lane after a successful ENABLE. -/
def State.enabledLane (s : State) (l : Lane) : Lane :=
  { Lane.reset with
    state := .idle, cursor := headCursor l.desc.head, desc := l.desc, pollTimer := s.pollStart l .idle, port := l.port }

/-- R149, R171 steps 3 to 5: the wear is loaded: the thresholds and marks are taken, the path table and the claims are cleared, the
lanes enter IDLE, and the status words are written. -/
def State.enableLoaded (s : State) : State :=
  let t :=
    { s with
      health := { s.health with thresholds := s.health.staged, staged := .replicate 4 .reset, suspect := [] }
      live := { s.live with enable := Vector.ofFn fun r => s.cfg.rows[r].liveEnable }
      paths := .replicate 256 .reset
      arbiter := .reset
      plans := .replicate 8 none
      contexts := .replicate 8 .reset
      rdy := .replicate 8 false
      service := .reset
      lanes := mapAt s.lanes fun _ l => s.enabledLane l
      link := { s.link with pointer := 0 } }
  ((t.refreshMarks.passageAt .enableStatus).writeBayWords).writeLaneWords

/-- R149: the wear load begins; an unaligned address fails ENABLE before any read. -/
def State.startWearLoad (s : State) : State :=
  if s.health.wearArea.toNat % 64 = 0 then s.passageIssue (.wearLoad 0) (.read (wearTransferAddr s.health.wearArea 0) 64)
  else s.enableFails .wearArea

/-- R149: the read of transfer `j` of the wear load has completed. -/
def State.enableTransferDone (s : State) (j : Nat) (result : Option (List Byte)) : State :=
  match result with
  | none => (s.raise causeMemory).zeroWear.enableFails .wearArea
  | some bytes =>
    let t := s.loadTransfer j bytes
    if j + 1 = Config.wearTransfers then t.enableLoaded
    else t.passageIssue (.wearLoad (j + 1)) (.read (wearTransferAddr s.health.wearArea (j + 1)) 64)

/-! ## Discovery (R165, R166) -/

/-- R2: the expected bays, by ascending address. -/
def State.expectedBays (s : State) : List BayId := (List.finRange 8).filter fun b => expectedBay s.cfg.expected b

def State.setDiscovery (s : State) (d : Discovery) : State := { s with link := { s.link with discovery := d } }

/-- R165, R166: every expected bay stands in PROBING with its outcome cleared. -/
def State.probeBays (s : State) : State :=
  s.expectedBays.foldl
    (fun t b => (t.enterBay b .probing 0).modBay b fun bay => { bay with model := 0, mismatch := false }) s

/-- R165: a pass at the rate begins. -/
def State.startPass (s : State) : State :=
  s.setDiscovery { stage := .pass, toProbe := s.expectedBays, silent := [], waiting := [] }

/-- R165: discovery begins: BRST is asserted, or its assertion goes on, for 100 µs. -/
def State.startDiscovery (s : State) (ceiling : Fin 3) : State :=
  (({ s with link := { s.link with rate := some ceiling, brst := true } }.probeBays).setDiscovery
    { stage := .pulse s.now, toProbe := [], silent := [], waiting := [] }).passageAt .discovery

/-- R165: the BRST pulse ends, and the first pass begins. -/
def State.pulseEnded (s : State) : State :=
  { s with link := { s.link with brst := false } }.probeBays.startPass

/-- R163, R166: discovery ends: every ONLINE or HELD bay starts its keep-alive timer, and ENABLE goes on to the wear load. -/
def State.discoveryEnds (s : State) : State :=
  (({ s with link := { s.link with
        discovery := .reset
        bays := mapAt s.link.bays fun _ bay =>
          if bay.state.answering then { bay with keepAlive := some s.now, keepAliveDue := false } else bay } }).passageAt
    .discovery).startWearLoad

/-- R166: the silent bays become ABSENT with no model recorded. -/
def State.silentAbsent (s : State) : State :=
  s.link.discovery.silent.foldl (fun t b => (t.enterBay b .absent 0).modBay b fun bay => { bay with model := 0, mismatch := false }) s

/-- R166: the next slower rate, if there is one. -/
def slowerRate (rate : Option (Fin 3)) : Option (Fin 3) :=
  match rate with
  | some r => if r.val < 2 then some (r + 1) else none
  | none => none

/-- R166: the rate is fixed: the silent bays are ABSENT, and the waiting bays wait on. -/
def State.rateFixed (s : State) : State :=
  s.silentAbsent.setDiscovery { s.link.discovery with stage := .waiting, silent := [] }

/-- R166: the end of a pass. -/
def State.passEnds (s : State) : State :=
  match slowerRate s.link.rate with
  | some slower =>
    if s.link.discovery.silent.isEmpty then s.rateFixed
    else { s with link := { s.link with rate := some slower } }.probeBays.startPass
  | none => s.rateFixed

/-- R166: discovery goes on: the end of a pass once every bay of it has been probed, and the end of discovery once no bay waits. -/
def State.discoveryMoves (s : State) : State :=
  let t := if s.link.discovery.stage = .pass ∧ s.link.discovery.toProbe = [] then s.passEnds else s
  if t.link.discovery.stage = .waiting ∧ t.link.discovery.waiting = [] then t.discoveryEnds else t

/-- A bay waits no longer. -/
def State.dropWaiting (s : State) (b : BayId) : State :=
  s.setDiscovery { s.link.discovery with waiting := s.link.discovery.waiting.filter fun w => w.bay != b }

/-- R166: a not-ready bay waits; the wait runs from the first not-ready reply at the rate, and the next PROBE from this one. -/
def State.bayWaits (s : State) (b : BayId) : State :=
  if s.link.discovery.waiting.any fun w => w.bay == b then
    s.setDiscovery { s.link.discovery with
      waiting := s.link.discovery.waiting.map fun (w : WaitingBay) =>
        if w.bay = b then { w with resolved := s.now, due := false } else w }
  else
    s.setDiscovery { s.link.discovery with
      waiting := s.link.discovery.waiting ++ [{ bay := b, since := s.now, resolved := s.now, due := false }] }

/-- R165: the outcome of a good reply to a discovery PROBE. -/
def State.discovered (s : State) (b : BayId) (model : Byte) (ready : Bool) (reasons : BitVec 3) : State :=
  let t := s.recordModel b model
  if model ≠ s.cfg.bays[b].model then (t.enterBay b .absent reasons).dropWaiting b
  else if ready then (t.enterBay b (if reasons = 0 then .online else .held) reasons).dropWaiting b
  else (t.enterBay b .probing reasons).bayWaits b

/-- R166: a reply that completes after the ready wait has made the bay HELD is taken as a PROBE reply to a HELD bay. -/
def State.heldProbed (s : State) (b : BayId) (model : Byte) (ready : Bool) (reasons : BitVec 3) : State :=
  let t := s.recordModel b model
  if model ≠ s.cfg.bays[b].model then (t.enterBay b .absent reasons).announceBay b
  else if ready ∧ reasons = 0 then (t.enterBay b .online 0).announceBay b
  else if probeReasons ready reasons = s.link.bays[b].reasons then t
  else (t.enterBay b .held (probeReasons ready reasons)).announceBay b

/-- R165, R166: a good reply to a discovery PROBE, by the state of its bay when it is taken. -/
def State.discoveryReplied (s : State) (b : BayId) (model : Byte) (ready : Bool) (reasons : BitVec 3) : State :=
  let t := s.freeLink
  match t.link.bays[b].state with
  | .probing => (t.discovered b model ready reasons).discoveryMoves
  | .held => (t.heldProbed b model ready reasons).discoveryMoves
  | .absent | .online | .faulted => t.discoveryMoves

/-- R165, R166, R171: the final failure of a discovery PROBE: in a pass the bay is silent at the rate; a later failure, of a re-probe, makes
the bay ABSENT, a waiting one and one that its ready wait has made HELD, with the reasons, the model and the mismatch flag that it had
(DEDUCED, log 56). Once discovery has ended a HELD bay faults, as by any frame (R157; DEDUCED, log 19). -/
def State.discoveryFailed (s : State) (b : BayId) : State :=
  let t := s.freeLink
  let absent := (t.enterBay b .absent t.link.bays[b].reasons).dropWaiting b
  match t.link.bays[b].state with
  | .probing =>
    if t.link.discovery.stage = .pass then
      (t.setDiscovery { t.link.discovery with silent := insertAsc b t.link.discovery.silent }).discoveryMoves
    else absent.discoveryMoves
  | .held => (if t.link.discovery.stage = .inactive then t.bayFaults b else absent).discoveryMoves
  | .absent | .online | .faulted => t.discoveryMoves

/-- R166: at the expiry of its ready wait a bay becomes HELD with COIL_SUPPLY. -/
def State.readyWaitExpired (s : State) (b : BayId) : State :=
  ((s.enterBay b .held reasonCoilSupply).dropWaiting b).discoveryMoves

/-! ## The configuration block (R170) -/

/-- R9, R38, R118, R149: the copies are taken; the thresholds wait for the end of the wear load. -/
def State.takeConfig (s : State) (bytes : List Byte) : State :=
  { s with
    cfg := configCopiesOf bytes
    health := { s.health with wearArea := configWearArea bytes, staged := Vector.ofFn (thresholdsOf bytes) }
    lanes := mapAt s.lanes fun n l => { l with desc := laneDescriptorOf bytes n } }.refreshMarks

/-- R170: the read of the configuration block has completed. -/
def State.configRead (s : State) (result : Option (List Byte)) : State :=
  match result with
  | none => (s.raise causeMemory).enableFails .memory
  | some bytes =>
    match configFailure bytes with
    | some code => s.enableFails code
    | none => (s.takeConfig bytes).startDiscovery (configCeiling bytes)

/-! ## PARK_ALL and DISABLE (R172, R173) -/

/-- A lane whose order has ended and that stands HALTED with reason PARKED. -/
def Lane.parked (l : Lane) : Bool := l.state == .halted && l.halt == some .parked && l.access.isNone && l.deferred == .none

/-- R14: one opening wave for each ONLINE bay that has a CLOSED relay, by ascending bay address. -/
def State.parkWaves (s : State) : List Wave :=
  ((List.finRange 8).filter fun b => s.bayOnline b && !(inBay b s.image.closed).isEmpty).map fun b =>
    s.openingWave b (inBay b s.image.closed) .park

/-- R172 step 2: once every lane is parked, the park waves are offered. -/
def State.afterAborts (s : State) : State :=
  if s.host.passage = .aborting ∧ allAt s.lanes Lane.parked = true then
    { s with link := { s.link with parkDue := s.parkWaves } }.passageAt .parkWaves
  else s

/-- R34, R172 step 3: every defined path becomes IDLE, every row FREE, the plan slots empty, and the contexts return to NONE. -/
def State.parkClear (s : State) : State :=
  { s.parkPaths.freeAllRows with plans := .replicate 8 none, contexts := .replicate 8 .reset }

/-- A park wave is on the link. -/
def State.parkInFlight (s : State) : Bool :=
  match s.link.frame with
  | some f => f.owner == .park
  | none => false

/-- R149: transfer `j` of the wear save of DISABLE is issued. -/
def State.disableTransfer (s : State) (j : Nat) : State :=
  s.passageIssue (.disableSave j) (.write (wearTransferAddr s.health.wearArea j) (s.wearTransfer j))

/-- R172 step 3, R173: once every park wave has resolved, the matrix is clear; DISABLE goes on to the wear save. -/
def State.afterParkWaves (s : State) : State :=
  if s.host.passage = .parkWaves ∧ s.link.parkDue = [] ∧ s.parkInFlight = false then
    let t := s.parkClear
    if s.host.device = .disabling then t.disableTransfer 0 else t.passageAt .parkStatus
  else s

/-- R173 steps 3 to 5: the lanes become DISABLED, the bays ABSENT, and the copies, the thresholds and the live enables take their
reset values; the claim arbiter, the plan slots and the contexts are as its park has left them (R77, R172); the status words are
written. -/
def State.shutDown (s : State) : State :=
  let t :=
    { s with
      lanes := mapAt s.lanes fun _ l => { Lane.reset with port := l.port }
      arbiter := .reset
      plans := .replicate 8 none
      contexts := .replicate 8 .reset
      image := .reset
      cfg := .reset
      health := { s.health with thresholds := .replicate 4 .reset, staged := .replicate 4 .reset, wearArea := 0 }
      live := { s.live with enable := .replicate 16 false }
      rdy := .replicate 8 false
      link := { s.link with
        rate := none, poll := .idle, discovery := .reset, parkDue := []
        bays := mapAt s.link.bays fun _ bay => { Bay.reset with port := bay.port } } }
  ((t.refreshMarks.passageAt .disableStatus).writeLaneWords).writeBayWords

/-- R149, R173: the write of transfer `j` has completed; an error sets MEMORY and the save goes on. -/
def State.disableTransferDone (s : State) (j : Nat) (ok : Bool) : State :=
  let t := s.raiseMemoryUnless ok
  if j + 1 = Config.wearTransfers then t.shutDown else t.disableTransfer (j + 1)

/-- R171 step 6, R172 step 4, R173 step 6: once the status words are written, the passage ends. -/
def State.afterStatusWords (s : State) : State :=
  match s.host.passage with
  | .enableStatus => if s.lanePortsQuiet && s.bayPortsQuiet then s.passageEnds .enabled causeEnabled else s
  | .disableStatus => if s.lanePortsQuiet && s.bayPortsQuiet then s.passageEnds .disabled causeEnabled else s
  | .parkStatus => if s.lanePortsQuiet then s.passageEnds .enabled causeParked else s
  | .idle | .configRead | .discovery | .wearLoad _ | .aborting | .parkWaves | .disableSave _ => s

/-- A passage goes on as far as the state allows. -/
def State.advancePassage (s : State) : State := s.afterAborts.afterParkWaves.afterStatusWords

/-- What closes an event: the walks that its releases and appends owe, and the passage in progress. -/
def State.finishStep (s : State) : State := s.settleWalks.advancePassage

/-! ## Resets (R176) -/

/-- R176: every block takes its reset values. The levels of the input lines are not the part's (log 2), the queue is the
sender's, and a completion of an access issued before the reset is discarded (log 4). -/
def State.resetPart (s : State) : State :=
  { State.reset with
    live := { LiveMonitor.reset with line := s.live.line }
    link := { LinkController.reset with srq := s.link.srq }
    nextTag := s.nextTag
    pending := s.pending }

/-! ## Completions and timeouts (R54) -/

/-- R53: a lane's status word write has completed; it sets the causes of its halt, and MEMORY when it failed. -/
def State.laneStatusDone (s : State) (n : LaneId) (ok : Bool) : State :=
  ((((s.raise s.lanes[n].port.causes).raiseMemoryUnless ok).modLane n fun l => { l with port := l.port.completed }).pumpLane
    n).advancePassage

/-- R160: a bay's status word write has completed; the BAY cause follows, and MEMORY when it failed. -/
def State.bayStatusDone (s : State) (b : BayId) (ok : Bool) : State :=
  ((((s.raise s.link.bays[b].port.causes).raiseMemoryUnless ok).modBay b fun bay =>
    { bay with port := bay.port.completed }).pumpBay b).advancePassage

/-- A completion of the access of a lane, by what the access is for; `none` or `false`: it ended in error. -/
def State.laneAccessFailed (s : State) (n : LaneId) (op : LaneOp) : State :=
  match op with
  | .recordRead => s.recordRead n none
  | .linkRead => s.linkRead n false none
  | .endLinkRead => s.linkRead n true none
  | .headRead => s.headRead n none
  | .startResult => s.startResultDone n false
  | .taken => s.takenDone n false
  | .endResult => s.endResultDone n false
  | .finalState => s.stateWriteDone n false

/-- The access of the passage ended in error. -/
def State.passageAccessFailed (s : State) : State :=
  match s.host.passage with
  | .configRead => s.configRead none
  | .wearLoad j => s.enableTransferDone j none
  | .disableSave j => s.disableTransferDone j false
  | .idle | .discovery | .enableStatus | .aborting | .parkWaves | .parkStatus | .disableStatus => s

/-- The access of the service block ended in error. -/
def State.serviceAccessFailed (s : State) : State :=
  match s.service.order with
  | .define list count k => s.entryRead list count k none
  | .wearSave j => s.saveDone j false
  | .wearLoad j => s.loadDone j none
  | .none | .wearClear _ _ => s

/-- The block whose access a tag names, and which has had no completion for 50,000 µs (R54). -/
inductive AccessHolder where
  | passage
  | service
  | lane (n : LaneId) (op : LaneOp)
  | laneStatus (n : LaneId)
  | bayStatus (b : BayId)
deriving DecidableEq, Repr

/-- The lane's access, if it has timed out, by what it is for. -/
def State.laneTimedOut (s : State) (tag : Nat) (n : LaneId) : Option AccessHolder :=
  match s.lanes[n].access with
  | some a => if s.timedOut (some a.access) tag then some (.lane n a.op) else none
  | none => none

/-- R54: the block that made the access which has timed out under a tag. -/
def State.timedOutHolder (s : State) (tag : Nat) : Option AccessHolder :=
  if s.timedOut s.host.access tag then some .passage
  else if s.timedOut s.service.access tag then some .service
  else
    match (List.finRange 9).findSome? (s.laneTimedOut tag) with
    | some holder => some holder
    | none =>
      match (List.finRange 9).find? fun n => s.timedOut s.lanes[n].port.access tag with
      | some n => some (.laneStatus n)
      | none => ((List.finRange 8).find? fun b => s.timedOut s.link.bays[b].port.access tag).map .bayStatus

/-- R54: the timeout is a memory error for that block. -/
def State.accessFailed (s : State) (holder : AccessHolder) : State :=
  match holder with
  | .passage => s.passageAccessFailed
  | .service => s.serviceAccessFailed
  | .lane n op => (s.laneAccessFailed n op).finishStep
  | .laneStatus n => s.laneStatusDone n false
  | .bayStatus b => s.bayStatusDone b false

end Sys2Proof.Machine
end

