-- ==== Sys2Proof/Machine/ContextEvents.lean ====
section
/-! DEFINITION. The timers of the claim arbiter and of the switch contexts (chapters 4, 6, 7 and 8). -/

namespace Sys2Proof.Machine

/-- R72: a claim has waited for the limit of its lane. -/
def State.claimExpired (s : State) (n : SiteId) : Bool :=
  s.arbiter.waiting.any fun e => e.lane == n && s.reached e.enqueued s.lanes[siteLane n].desc.claimWait.toNat

/-- R72: CLAIM_WAIT_EXPIRY. -/
def execClaimWaitExpiry (site : SiteId) (s : State) : Host.Outcome State Fault Refusal :=
  .next (if s.claimExpired site then ((s.removeClaim site).takeEnding site .rowBusy none).finishStep else s)

/-- A phase timer has run its length. -/
def State.phaseRan (s : State) (t : PhaseTimer) : Bool :=
  match t with
  | .running timer => s.ran timer
  | .absent | .notStarted | .expired => false

/-- A timer that may be stopped has run its length. -/
def State.timerRan (s : State) (t : Option Timer) : Bool :=
  match t with
  | some timer => s.ran timer
  | none => false

/-- R100: BREAK_TIMER_EXPIRY. -/
def execBreakTimerExpiry (site : SiteId) (bay : BayId) (s : State) : Host.Outcome State Fault Refusal :=
  .next (if s.phaseRan s.contexts[site].breakTimers[bay] then (s.breakExpired site bay).finishStep else s)

/-- R101: GAP_TIMER_EXPIRY. -/
def execGapTimerExpiry (site : SiteId) (s : State) : Host.Outcome State Fault Refusal :=
  .next (if s.timerRan s.contexts[site].gapTimer then (s.gapExpired site).finishStep else s)

/-- R97: SPACING_TIMER_EXPIRY. -/
def execSpacingTimerExpiry (site : SiteId) (bay : BayId) (s : State) : Host.Outcome State Fault Refusal :=
  .next (if s.timerRan s.contexts[site].spacingTimers[bay] then (s.spacingExpired site bay).finishStep else s)

/-- R102: MAKE_TIMER_EXPIRY. -/
def execMakeTimerExpiry (site : SiteId) (bay : BayId) (s : State) : Host.Outcome State Fault Refusal :=
  .next (if s.phaseRan s.contexts[site].makeTimers[bay] then (s.makeExpired site bay).finishStep else s)

/-- R103: SETTLE_TIMER_EXPIRY, of an order's settle or of a guard path's (R132). -/
def execSettleTimerExpiry (site : SiteId) (s : State) : Host.Outcome State Fault Refusal :=
  .next
    (if s.timerRan s.contexts[site].settleTimer && s.contexts[site].scanPhase != .stepSettle then
      (s.afterSettle site).finishStep
    else s)

/-- R123: HOT_HOLD_EXPIRY. -/
def execHotHoldExpiry (site : SiteId) (s : State) : Host.Outcome State Fault Refusal :=
  .next
    (match s.contexts[site].held with
    | some h =>
      if s.reached h.start s.contexts[site].hotWait then (s.takeEnding site .hotTimeout h.failing).finishStep else s
    | none => s)

/-- R134: STEP_SETTLE_EXPIRY. -/
def execStepSettleExpiry (site : SiteId) (s : State) : Host.Outcome State Fault Refusal :=
  .next
    (if s.timerRan s.contexts[site].settleTimer && s.contexts[site].scanPhase == .stepSettle then
      (s.stepReady site).finishStep
    else s)

/-- The advance timer of an awaiting scan has run in a mode. -/
def State.advanceRan (s : State) (n : SiteId) : Bool :=
  s.timerRan s.contexts[n].advanceTimer && s.contexts[n].scanPhase == .await

/-- R135: DWELL_EXPIRY. -/
def execDwellExpiry (site : SiteId) (s : State) : Host.Outcome State Fault Refusal :=
  .next
    (if s.advanceRan site && s.contexts[site].scanOps.advance == .dwell then (State.advanceScan scanFuel site s).finishStep
    else s)

/-- R136: a step timeout is counted, saturating at 65,535. -/
def State.countTimeout (s : State) (n : SiteId) : State :=
  s.modContext n fun c => { c with stepTimeouts := min (c.stepTimeouts + 1) 65535 }

/-- R136: STEP_WAIT_EXPIRY. -/
def execStepWaitExpiry (site : SiteId) (s : State) : Host.Outcome State Fault Refusal :=
  .next
    (if s.advanceRan site then
      match s.contexts[site].scanOps.advance with
      | .dwell => s
      | .strict => (s.takeEnding site .stepTimeout none).finishStep
      | .lenient => (State.advanceScan scanFuel site (s.countTimeout site)).finishStep
    else s)

/-- R138, R139: CLEANUP_BREAK_HOLD_EXPIRY. -/
def execCleanupBreakHoldExpiry (site : SiteId) (s : State) : Host.Outcome State Fault Refusal :=
  .next
    (if s.timerRan s.contexts[site].cleanupHold then
      ((s.modContext site fun c => { c with cleanupHold := none }).afterCleanup site).finishStep
    else s)

end Sys2Proof.Machine
end

