-- ==== Sys2Proof/Machine/HostCommands.lean ====
section
/-! DEFINITION. The host's commands and register accesses (sections 11.1, 11.2 and 11.5) and the resets (R176). -/

namespace Sys2Proof.Machine

/-! ## Device commands (R169) -/

/-- R170: an accepted ENABLE enters ENABLING with the failure code NONE, and reads the configuration block. -/
def execEnable (s : State) : Host.Outcome State Fault Refusal :=
  .next
    (if s.host.device = .disabled then
      { s with host := { s.host with device := .enabling, refused := false, failure := .none } }.passageIssue .configRead
        (.read s.configBase 1280)
    else s.refuse)

/-- R172, R173: PARK_ALL or DISABLE begins: every lane is reached under R60, in ascending order. A release by an order that ends there with an
earlier ending of its own is walked after the last lane, when no claim waits any more; R71 and R73 let the walk come before a later lane's
abort (DESIGN CHOICE, log 58). -/
def State.startParking (s : State) (d : DeviceState) : State :=
  ((List.finRange 9).foldl (fun (t : State) n => t.parkLane n)
    ({ s with host := { s.host with device := d, refused := false } }.passageAt .aborting)).finishStep

/-- R173: DISABLE. -/
def execDisable (s : State) : Host.Outcome State Fault Refusal :=
  .next (if s.isEnabled then s.startParking .disabling else s.refuse)

/-- R172: PARK_ALL. -/
def execParkAll (s : State) : Host.Outcome State Fault Refusal :=
  .next (if s.isEnabled then s.startParking .parking else s.refuse)

/-- R176: RESET_DEVICE is accepted in any state. -/
def execResetDevice (s : State) : Host.Outcome State Fault Refusal := .next s.resetPart

/-! ## Lane commands (R57–R59) -/

/-- The lane that a lane argument names; an argument above 8 names none (R180). -/
def laneOf (argument : BitVec 16) : Option LaneId := if h : argument.toNat < 9 then some ⟨argument.toNat, h⟩ else none

/-- R57: LANE_SKIP. -/
def execLaneSkip (lane : BitVec 16) (s : State) : Host.Outcome State Fault Refusal :=
  .next
    (match s.isEnabled, laneOf lane with
    | true, some n => (s.accept.skipLane n).finishStep
    | true, none | false, _ => s.refuse)

/-- R58: LANE_RESET. -/
def execLaneReset (lane : BitVec 16) (s : State) : Host.Outcome State Fault Refusal :=
  .next
    (match s.isEnabled, laneOf lane with
    | true, some n => (s.accept.resetLaneCommand n).finishStep
    | true, none | false, _ => s.refuse)

/-- R59: LANE_RESUME is refused for a lane that is not HALTED. -/
def execLaneResume (lane : BitVec 16) (s : State) : Host.Outcome State Fault Refusal :=
  .next
    (match s.isEnabled, laneOf lane with
    | true, some n => if s.lanes[n].state = .halted then s.accept.resumeLane n else s.refuse
    | true, none | false, _ => s.refuse)

/-- R42: LANE_START; mask bits beyond the 9 lanes are ignored. -/
def execLaneStart (mask : BitVec 16) (s : State) : Host.Outcome State Fault Refusal :=
  .next
    (if s.isEnabled then
      (List.finRange 9).foldl (fun (t : State) n => if mask.getLsbD n.val then t.laneStart n else t) s.accept
    else s.refuse)

/-- R46: STROBE; mask bits beyond the 8 sites are ignored. -/
def execStrobe (mask : BitVec 16) (s : State) : Host.Outcome State Fault Refusal :=
  .next
    (if s.isEnabled then
      (List.finRange 8).foldl (fun (t : State) n => if mask.getLsbD n.val then t.strobeLane (siteLane n) else t) s.accept
    else s.refuse)

/-- R169: a command code that names no command is refused. -/
def execUnknownCommand (_code : BitVec 8) (_argument : BitVec 16) (s : State) : Host.Outcome State Fault Refusal :=
  .next s.refuse

/-! ## Register accesses (R168, R174, R180) -/

/-- R174, R180: a read of any byte of CAUSE returns the bytes read and clears all seven bits. -/
def execCauseRead (bytes : BitVec 4) (s : State) : Host.Outcome State Fault Refusal :=
  .next { s with host := { s.host with causeRead := s.causeRegister &&& byteMask bytes, cause := 0 } }

/-- R174: a write to CAUSE_ENABLE sets the seven enable bits. -/
def execCauseEnableWrite (bytes : BitVec 4) (value : Word32) (s : State) : Host.Outcome State Fault Refusal :=
  .next { s with host := { s.host with causeEnable := (mergeBytes s.causeEnableRegister bytes value).setWidth 7 } }

/-- R168: the low 12 bits of CONFIG_LO read as 0. -/
def configLoMask : Word32 := 0xFFFFF000

/-- R168: CONFIG_LO (`high = false`) or CONFIG_HI is written in DISABLED; in any other state the register is unchanged and the
refused flag is set. -/
def execConfigAddressWrite (high : Bool) (bytes : BitVec 4) (value : Word32) (s : State) : Host.Outcome State Fault Refusal :=
  .next
    (if s.host.device = .disabled then
      if high then { s with host := { s.host with configHi := mergeBytes s.host.configHi bytes value } }
      else { s with host := { s.host with configLo := mergeBytes s.host.configLo bytes value &&& configLoMask } }
    else s.refuse)

/-- R168: a write to IDENT, STATUS or CAUSE is ignored. -/
def execRegisterWrite (_register : PassiveRegister) (_bytes : BitVec 4) (_value : Word32) (s : State) :
    Host.Outcome State Fault Refusal := .next s

/-! ## Resets from outside (R176) -/

def execPowerOnReset (s : State) : Host.Outcome State Fault Refusal := .next s.resetPart

def execPcieHotReset (s : State) : Host.Outcome State Fault Refusal := .next s.resetPart

end Sys2Proof.Machine
end

