-- ==== Sys2Proof/Machine/LineEvents.lean ====
section
/-! DEFINITION. The input lines of Table 0-3: STB, STP, LIVE and SRQ. -/

namespace Sys2Proof.Machine

/-- R46: a rising edge on a site's STB line is a strobe to its lane. -/
def execStbEdge (site : SiteId) (s : State) : Host.Outcome State Fault Refusal := .next (s.strobeLane (siteLane site))

/-- R136: the step of a STRICT or LENIENT scan is awaited. -/
def Context.awaited (c : Context) : Bool := c.scanPhase == .await && c.scanOps.advance != .dwell

/-- R136: a rising edge on a site's STP line advances an awaited step; it has no effect in any other case. -/
def execStpEdge (site : SiteId) (s : State) : Host.Outcome State Fault Refusal :=
  .next (if s.contexts[site].awaited then (State.advanceScan scanFuel site s).finishStep else s)

/-- The level of a LIVE line. -/
def State.setLiveLine (s : State) (r : RowId) (level : Bool) : State :=
  { s with live := { s.live with line := setAt s.live.line r level } }

/-- R117, R122: an edge on the LIVE line of an enabled row is an event of the monitor, which reaches the held waves on that row;
an edge on a row whose enable is 0 is none. -/
def execLiveEdge (row : RowId) (level : Bool) (s : State) : Host.Outcome State Fault Refusal :=
  .next
    (let t := s.setLiveLine row level
    if s.live.enable[row] && s.live.line[row] != level then
      ((List.finRange 8).foldl (fun u n => (u.rowEvent n row).settleWalks) t).finishStep
    else t)

/-- R162: SRQ is read as a level; its deassertion stops the poll lockout. -/
def execSrqChange (level : Bool) (s : State) : Host.Outcome State Fault Refusal :=
  .next
    (let t := { s with link := { s.link with srq := level } }
    match level, s.link.poll with
    | false, .lockout _ => t.setPoll .idle
    | false, .idle | false, .polling | false, .followUps _ _ | true, _ => t)

end Sys2Proof.Machine
end

