-- ==== Sys2Proof/Machine/LinkEvents.lean ====
section
/-! DEFINITION. The events of the bay link (chapter 10). -/

namespace Sys2Proof.Machine

/-- R161: LINK_GRANT. -/
def execLinkGrant (s : State) : Host.Outcome State Fault Refusal := .next s.grantLink

/-! ## Replies -/

/-- R11, R99: WAVE_ACK. A frame whose bay is no longer ONLINE has no wave left to apply. -/
def State.waveAcked (s : State) (f : LinkFrame) : State :=
  match f.body with
  | .wave w _ => if s.bayOnline w.bay then (s.ackWave f.owner w).finishStep else s
  | .probe | .sense _ | .status | .clear | .poll => s

def execWaveAck (s : State) : Host.Outcome State Fault Refusal :=
  .next
    (match s.link.frame with
    | some f => s.waveAcked f
    | none => s)

/-- R11, R99: WAVE_NAK. -/
def State.waveRefused (s : State) (f : LinkFrame) (reasons : BitVec 3) : State :=
  match f.body with
  | .wave w _ => if s.bayOnline w.bay then (s.nakWave f.owner w.bay reasons).finishStep else s
  | .probe | .sense _ | .status | .clear | .poll => s

def execWaveNak (reasons : Byte) (s : State) : Host.Outcome State Fault Refusal :=
  .next
    (match s.link.frame with
    | some f => s.waveRefused f (holdReasons reasons)
    | none => s)

/-- R147: SENSE_REPLY; a reply of another length is no good reply (R181). -/
def State.sensed (s : State) (f : LinkFrame) (words : List Byte) : State :=
  match f.body with
  | .sense groups => if words.length = groups.length then (s.senseReplied f.owner f.bay groups words).finishStep else s
  | .probe | .wave _ _ | .status | .clear | .poll => s

def execSenseReply (words : List Byte) (s : State) : Host.Outcome State Fault Refusal :=
  .next
    (match s.link.frame with
    | some f => s.sensed f words
    | none => s)

/-- R159, R160: STATUS_REPLY. -/
def execStatusReply (reasons : Byte) (s : State) : Host.Outcome State Fault Refusal :=
  .next
    (match s.link.frame with
    | some f => if f.body = .status then (s.statusReplied f.owner f.bay (holdReasons reasons)).finishStep else s
    | none => s)

/-- R162: CLEAR_REPLY. -/
def execClearReply (s : State) : Host.Outcome State Fault Refusal :=
  .next
    (match s.link.frame with
    | some f => if f.body = .clear then s.freeLink.dropFollowUp else s
    | none => s)

/-- R157, R162: POLL_SLOTS_END. -/
def execPollSlotsEnd (slots : Vector (Option Byte) 8) (s : State) : Host.Outcome State Fault Refusal :=
  .next
    (match s.link.frame with
    | some f => if f.body = .poll then s.freeLink.slotsRead slots else s
    | none => s)

/-! ## Failures (R157) -/

/-- R157: the same frame is sent once more while it holds the link. Once the rate is unset the link carries no frame (log 21), and the
frame resolves. -/
def State.firstFailure (s : State) (f : LinkFrame) : State :=
  if f.body = .poll ∨ f.repeated = true then s
  else if s.link.rate.isNone then s.freeLink
  else { s with link := { s.link with frame := some { f with repeated := true } } }

def execFrameFirstFailure (_fault : FrameFault) (s : State) : Host.Outcome State Fault Refusal :=
  .next
    (match s.link.frame with
    | some f => s.firstFailure f
    | none => s)

/-- R157: the final failure, by what asked for the frame. -/
def State.repeatFailed (s : State) (f : LinkFrame) : State :=
  if f.body = .poll ∨ f.repeated = false then s
  else
    match f.owner with
    | .discovery => (s.discoveryFailed f.bay).finishStep
    | .reprobe => s.reprobeFailed f.bay
    | .poll | .followUp | .keepAlive | .context _ | .park => (s.finalFailure f.owner f.bay).finishStep

def execFrameFinalFailure (_fault : FrameFault) (s : State) : Host.Outcome State Fault Refusal :=
  .next
    (match s.link.frame with
    | some f => s.repeatFailed f
    | none => s)

/-! ## Discovery (R165, R166) -/

/-- R165: DISCOVERY_PROBE_REPLY. -/
def execDiscoveryProbeReply (model ready reasons : Byte) (s : State) : Host.Outcome State Fault Refusal :=
  .next
    (match s.link.frame with
    | some f =>
      if f.body = .probe ∧ f.owner = .discovery then
        s.discoveryReplied f.bay model (readyFlag ready) (holdReasons reasons)
      else s
    | none => s)

/-- R165: BRST_PULSE_END. -/
def execBrstPulseEnd (s : State) : Host.Outcome State Fault Refusal :=
  .next
    (match s.link.discovery.stage with
    | .pulse start => if s.reached start Config.brstPulse then s.pulseEnded else s
    | .inactive | .pass | .waiting => s)

/-- A discovery PROBE to the bay is on the link. -/
def State.probingNow (s : State) (b : BayId) : Bool :=
  match s.link.frame with
  | some f => f.owner == .discovery && f.bay == b
  | none => false

/-- R166: DISCOVERY_REPROBE_DUE. -/
def execDiscoveryReprobeDue (bay : BayId) (s : State) : Host.Outcome State Fault Refusal :=
  .next
    (if s.link.discovery.stage = .waiting ∧ s.probingNow bay = false then
      s.setDiscovery { s.link.discovery with
        waiting := s.link.discovery.waiting.map fun (w : WaitingBay) =>
          if w.bay = bay ∧ s.reached w.resolved Config.discoveryReprobe = true then { w with due := true } else w }
    else s)

/-- R166: READY_WAIT_EXPIRY. -/
def execReadyWaitExpiry (bay : BayId) (s : State) : Host.Outcome State Fault Refusal :=
  .next
    (if s.link.discovery.stage = .waiting ∧
        (s.link.discovery.waiting.any fun w => w.bay == bay && s.reached w.since Config.readyWait) = true then
      s.readyWaitExpired bay
    else s)

/-! ## Keep-alives and re-probes (R163, R164) -/

/-- R163: KEEPALIVE_EXPIRY. -/
def execKeepaliveExpiry (bay : BayId) (s : State) : Host.Outcome State Fault Refusal :=
  .next
    (match s.link.bays[bay].keepAlive with
    | some start =>
      if s.reached start Config.keepAlive && s.link.bays[bay].state.answering then
        s.modBay bay fun b => { b with keepAliveDue := true }
      else s
    | none => s)

/-- R164: REPROBE_TIMER_EXPIRY. -/
def execReprobeTimerExpiry (bay : BayId) (s : State) : Host.Outcome State Fault Refusal :=
  .next
    (match s.link.bays[bay].reprobe with
    | some start =>
      if s.reached start Config.reprobe && s.link.bays[bay].state == .faulted then
        s.modBay bay fun b => { b with reprobe := none, reprobeDue := true }
      else s
    | none => s)

/-- R164: REPROBE_REPLY. -/
def execReprobeReply (model ready reasons : Byte) (s : State) : Host.Outcome State Fault Refusal :=
  .next
    (match s.link.frame with
    | some f =>
      if f.body = .probe ∧ f.owner = .reprobe then
        s.reprobeReplied f.bay model (readyFlag ready) (holdReasons reasons)
      else s
    | none => s)

/-! ## Timers of the link -/

/-- R162: POLL_LOCKOUT_EXPIRY. -/
def execPollLockoutExpiry (s : State) : Host.Outcome State Fault Refusal :=
  .next
    (match s.link.poll with
    | .lockout start => if s.reached start Config.pollLockout then s.setPoll .idle else s
    | .idle | .polling | .followUps _ _ => s)

/-- R10, R12: BUSY_WINDOW_END. The window is a pair of times, and a bay is busy by them alone: no state changes when it passes, and the
closing waves held for the bay are eligible from then on (R161). -/
def execBusyWindowEnd (_bay : BayId) (s : State) : Host.Outcome State Fault Refusal := .next s

end Sys2Proof.Machine
end

