-- ==== Sys2Proof/Machine/LaneEvents.lean ====
section
/-! DEFINITION. The timers of the lanes and the completions of their memory accesses (chapter 3). -/

namespace Sys2Proof.Machine

/-! ## Timers -/

/-- R45: a poll timer that expires restarts, and is a start event when no start is pending. R171: the lanes take start events from
the moment the device is ENABLED (DEDUCED, log 26). -/
def State.pollExpired (s : State) (n : LaneId) : State :=
  let t := s.modLane n fun l => { l with pollTimer := some s.now }
  if s.lanes[n].pendingStart || !s.isEnabled then t else t.startEvent n

/-- R45: POLL_TIMER_EXPIRY. -/
def execPollTimerExpiry (lane : LaneId) (s : State) : Host.Outcome State Fault Refusal :=
  .next
    (match s.lanes[lane].pollTimer with
    | some start =>
      if s.reached start s.lanes[lane].desc.pollInterval.toNat && s.lanes[lane].state == .idle then s.pollExpired lane else s
    | none => s)

/-- R44: the cadence ends; with a start pending, the deferred record is read again as a start event. -/
def State.cadenceExpired (s : State) (n : LaneId) : State :=
  let t := s.modLane n fun l => { l with cadenceTimer := none, pendingStart := false }
  if s.lanes[n].pendingStart && s.lanes[n].state == .idle then t.startEvent n else t

/-- R44, R48: CADENCE_TIMER_EXPIRY. -/
def execCadenceTimerExpiry (lane : LaneId) (s : State) : Host.Outcome State Fault Refusal :=
  .next
    (match s.lanes[lane].cadenceTimer with
    | some start => if s.reached start s.lanes[lane].desc.cadence.toNat then s.cadenceExpired lane else s
    | none => s)

/-- R47: OFFSET_TIMER_EXPIRY: a lane in OFFSET starts the order from its held record. -/
def execOffsetTimerExpiry (site : SiteId) (s : State) : Host.Outcome State Fault Refusal :=
  .next
    (let l := s.lanes[siteLane site]
    match l.offsetTimer with
    | some start =>
      if s.reached start l.desc.offsetDelay.toNat && l.state == .offset && l.access.isNone then s.orderStart (siteLane site)
      else s
    | none => s)

/-! ## Completions -/

/-- What a completion returned, as a list of octets. -/
def octetsOf {k : Nat} (result : Option (Vector Byte k)) : Option (List Byte) := result.map Vector.toList

/-- R43: RECORD_READ_DONE. -/
def execRecordReadDone (lane : LaneId) (tag : Nat) (result : Option (Vector Byte 64)) (s : State) :
    Host.Outcome State Fault Refusal :=
  .next (if s.lanes[lane].completes .recordRead tag then (s.recordRead lane (octetsOf result)).finishStep else s)

/-- R43, R52: LINK_READ_DONE, at a start event or after an order's end. -/
def execLinkReadDone (lane : LaneId) (tag : Nat) (result : Option (Vector Byte 8)) (s : State) :
    Host.Outcome State Fault Refusal :=
  .next
    (if s.lanes[lane].completes .linkRead tag then (s.linkRead lane false (octetsOf result)).finishStep
    else if s.lanes[lane].completes .endLinkRead tag then (s.linkRead lane true (octetsOf result)).finishStep
    else s)

/-- R58: HEAD_READ_DONE. -/
def execHeadReadDone (lane : LaneId) (tag : Nat) (result : Option (Vector Byte 8)) (s : State) :
    Host.Outcome State Fault Refusal :=
  .next (if s.lanes[lane].completes .headRead tag then (s.headRead lane (octetsOf result)).finishStep else s)

/-- R49: START_RESULT_WRITE_DONE. -/
def execStartResultWriteDone (lane : LaneId) (tag : Nat) (ok : Bool) (s : State) : Host.Outcome State Fault Refusal :=
  .next (if s.lanes[lane].completes .startResult tag then (s.startResultDone lane ok).finishStep else s)

/-- R49: TAKEN_WRITE_DONE. -/
def execTakenWriteDone (lane : LaneId) (tag : Nat) (ok : Bool) (s : State) : Host.Outcome State Fault Refusal :=
  .next (if s.lanes[lane].completes .taken tag then (s.takenDone lane ok).finishStep else s)

/-- R51, R57: END_RESULT_WRITE_DONE. -/
def execEndResultWriteDone (lane : LaneId) (tag : Nat) (ok : Bool) (s : State) : Host.Outcome State Fault Refusal :=
  .next (if s.lanes[lane].completes .endResult tag then (s.endResultDone lane ok).finishStep else s)

/-- R51, R52: STATE_WRITE_DONE. -/
def execStateWriteDone (lane : LaneId) (tag : Nat) (ok : Bool) (s : State) : Host.Outcome State Fault Refusal :=
  .next (if s.lanes[lane].completes .finalState tag then (s.stateWriteDone lane ok).finishStep else s)

/-- R53: LANE_STATUS_WRITE_DONE. -/
def execLaneStatusWriteDone (lane : LaneId) (tag : Nat) (ok : Bool) (s : State) : Host.Outcome State Fault Refusal :=
  .next (if completes s.lanes[lane].port.access tag then s.laneStatusDone lane ok else s)

/-- R160: BAY_STATUS_WRITE_DONE. -/
def execBayStatusWriteDone (bay : BayId) (tag : Nat) (ok : Bool) (s : State) : Host.Outcome State Fault Refusal :=
  .next (if completes s.link.bays[bay].port.access tag then s.bayStatusDone bay ok else s)

/-- R54: MEMORY_ACCESS_TIMEOUT. -/
def execMemoryAccessTimeout (tag : Nat) (s : State) : Host.Outcome State Fault Refusal :=
  .next
    (match s.timedOutHolder tag with
    | some holder => s.accessFailed holder
    | none => s)

end Sys2Proof.Machine
end

