-- ==== Sys2Proof/Machine/ServiceEvents.lean ====
section
/-! DEFINITION. The events of the service orders (R23–R25, R150–R152) and of the passages of ENABLE and DISABLE (R149, R170). -/

namespace Sys2Proof.Machine

/-- R152: the clear of the run that a WEAR_CLEAR names, in one event; the order ends OK. -/
def execWearClear (s : State) : Host.Outcome State Fault Refusal :=
  .next
    (match s.service.order with
    | .wearClear first count => (s.clearRun first count).endService .ok none
    | .none | .define _ _ _ | .wearSave _ | .wearLoad _ => s)

/-- R25: DEFINE_ENTRY_READ_DONE. -/
def execDefineEntryReadDone (tag : Nat) (result : Option (Vector Byte 40)) (s : State) : Host.Outcome State Fault Refusal :=
  .next
    (match s.service.order, completes s.service.access tag with
    | .define list count k, true => s.entryRead list count k (octetsOf result)
    | .define _ _ _, false | .none, _ | .wearSave _, _ | .wearLoad _, _ | .wearClear _ _, _ => s)

/-- R150: WEAR_SAVE_TRANSFER_DONE. -/
def execWearSaveTransferDone (tag : Nat) (ok : Bool) (s : State) : Host.Outcome State Fault Refusal :=
  .next
    (match s.service.order, completes s.service.access tag with
    | .wearSave j, true => s.saveDone j ok
    | .wearSave _, false | .none, _ | .define _ _ _, _ | .wearLoad _, _ | .wearClear _ _, _ => s)

/-- R151: WEAR_LOAD_TRANSFER_DONE. -/
def execWearLoadTransferDone (tag : Nat) (result : Option (Vector Byte 64)) (s : State) : Host.Outcome State Fault Refusal :=
  .next
    (match s.service.order, completes s.service.access tag with
    | .wearLoad j, true => s.loadDone j (octetsOf result)
    | .wearLoad _, false | .none, _ | .define _ _ _, _ | .wearSave _, _ | .wearClear _ _, _ => s)

/-- R170: CONFIG_BLOCK_READ_DONE. -/
def execConfigBlockReadDone (tag : Nat) (result : Option (Vector Byte 1280)) (s : State) : Host.Outcome State Fault Refusal :=
  .next
    (if s.host.passage = .configRead ∧ completes s.host.access tag = true then s.configRead (octetsOf result) else s)

/-- R149: ENABLE_WEAR_TRANSFER_DONE. -/
def execEnableWearTransferDone (tag : Nat) (result : Option (Vector Byte 64)) (s : State) : Host.Outcome State Fault Refusal :=
  .next
    (match s.host.passage, completes s.host.access tag with
    | .wearLoad j, true => s.enableTransferDone j (octetsOf result)
    | .wearLoad _, false | .idle, _ | .configRead, _ | .discovery, _ | .enableStatus, _ | .aborting, _ | .parkWaves, _
    | .parkStatus, _ | .disableSave _, _ | .disableStatus, _ => s)

/-- R149: DISABLE_SAVE_TRANSFER_DONE. -/
def execDisableSaveTransferDone (tag : Nat) (ok : Bool) (s : State) : Host.Outcome State Fault Refusal :=
  .next
    (match s.host.passage, completes s.host.access tag with
    | .disableSave j, true => s.disableTransferDone j ok
    | .disableSave _, false | .idle, _ | .configRead, _ | .discovery, _ | .wearLoad _, _ | .enableStatus, _ | .aborting, _
    | .parkWaves, _ | .parkStatus, _ | .disableStatus, _ => s)

end Sys2Proof.Machine
end

