-- ==== Sys2Proof/Machine/Dispatch.lean ====
section
/-! DEFINITION. The meaning of every command and event: one arm per constructor. -/

namespace Sys2Proof.Machine

def exec (i : Instr) (s : State) : Host.Outcome State Fault Refusal :=
  match i with
  | .enable => Sys2Proof.Machine.execEnable s
  | .disable => Sys2Proof.Machine.execDisable s
  | .parkAll => Sys2Proof.Machine.execParkAll s
  | .resetDevice => Sys2Proof.Machine.execResetDevice s
  | .laneSkip lane => Sys2Proof.Machine.execLaneSkip lane s
  | .laneReset lane => Sys2Proof.Machine.execLaneReset lane s
  | .laneResume lane => Sys2Proof.Machine.execLaneResume lane s
  | .laneStart mask => Sys2Proof.Machine.execLaneStart mask s
  | .strobe mask => Sys2Proof.Machine.execStrobe mask s
  | .unknownCommand code argument => Sys2Proof.Machine.execUnknownCommand code argument s
  | .causeRead bytes => Sys2Proof.Machine.execCauseRead bytes s
  | .causeEnableWrite bytes value => Sys2Proof.Machine.execCauseEnableWrite bytes value s
  | .configAddressWrite high bytes value => Sys2Proof.Machine.execConfigAddressWrite high bytes value s
  | .registerWrite register bytes value => Sys2Proof.Machine.execRegisterWrite register bytes value s
  | .powerOnReset => Sys2Proof.Machine.execPowerOnReset s
  | .pcieHotReset => Sys2Proof.Machine.execPcieHotReset s
  | .stbEdge site => Sys2Proof.Machine.execStbEdge site s
  | .stpEdge site => Sys2Proof.Machine.execStpEdge site s
  | .liveEdge row level => Sys2Proof.Machine.execLiveEdge row level s
  | .srqChange level => Sys2Proof.Machine.execSrqChange level s
  | .pollTimerExpiry lane => Sys2Proof.Machine.execPollTimerExpiry lane s
  | .cadenceTimerExpiry lane => Sys2Proof.Machine.execCadenceTimerExpiry lane s
  | .offsetTimerExpiry site => Sys2Proof.Machine.execOffsetTimerExpiry site s
  | .recordReadDone lane tag result => Sys2Proof.Machine.execRecordReadDone lane tag result s
  | .linkReadDone lane tag result => Sys2Proof.Machine.execLinkReadDone lane tag result s
  | .headReadDone lane tag result => Sys2Proof.Machine.execHeadReadDone lane tag result s
  | .startResultWriteDone lane tag ok => Sys2Proof.Machine.execStartResultWriteDone lane tag ok s
  | .takenWriteDone lane tag ok => Sys2Proof.Machine.execTakenWriteDone lane tag ok s
  | .wearClear => Sys2Proof.Machine.execWearClear s
  | .defineEntryReadDone tag result => Sys2Proof.Machine.execDefineEntryReadDone tag result s
  | .endResultWriteDone lane tag ok => Sys2Proof.Machine.execEndResultWriteDone lane tag ok s
  | .stateWriteDone lane tag ok => Sys2Proof.Machine.execStateWriteDone lane tag ok s
  | .laneStatusWriteDone lane tag ok => Sys2Proof.Machine.execLaneStatusWriteDone lane tag ok s
  | .bayStatusWriteDone bay tag ok => Sys2Proof.Machine.execBayStatusWriteDone bay tag ok s
  | .memoryAccessTimeout tag => Sys2Proof.Machine.execMemoryAccessTimeout tag s
  | .wearSaveTransferDone tag ok => Sys2Proof.Machine.execWearSaveTransferDone tag ok s
  | .wearLoadTransferDone tag result => Sys2Proof.Machine.execWearLoadTransferDone tag result s
  | .configBlockReadDone tag result => Sys2Proof.Machine.execConfigBlockReadDone tag result s
  | .enableWearTransferDone tag result => Sys2Proof.Machine.execEnableWearTransferDone tag result s
  | .disableSaveTransferDone tag ok => Sys2Proof.Machine.execDisableSaveTransferDone tag ok s
  | .linkGrant => Sys2Proof.Machine.execLinkGrant s
  | .waveAck => Sys2Proof.Machine.execWaveAck s
  | .waveNak reasons => Sys2Proof.Machine.execWaveNak reasons s
  | .senseReply words => Sys2Proof.Machine.execSenseReply words s
  | .statusReply reasons => Sys2Proof.Machine.execStatusReply reasons s
  | .clearReply => Sys2Proof.Machine.execClearReply s
  | .pollSlotsEnd slots => Sys2Proof.Machine.execPollSlotsEnd slots s
  | .frameFirstFailure fault => Sys2Proof.Machine.execFrameFirstFailure fault s
  | .frameFinalFailure fault => Sys2Proof.Machine.execFrameFinalFailure fault s
  | .discoveryProbeReply model ready reasons => Sys2Proof.Machine.execDiscoveryProbeReply model ready reasons s
  | .brstPulseEnd => Sys2Proof.Machine.execBrstPulseEnd s
  | .discoveryReprobeDue bay => Sys2Proof.Machine.execDiscoveryReprobeDue bay s
  | .readyWaitExpiry bay => Sys2Proof.Machine.execReadyWaitExpiry bay s
  | .keepaliveExpiry bay => Sys2Proof.Machine.execKeepaliveExpiry bay s
  | .reprobeTimerExpiry bay => Sys2Proof.Machine.execReprobeTimerExpiry bay s
  | .reprobeReply model ready reasons => Sys2Proof.Machine.execReprobeReply model ready reasons s
  | .pollLockoutExpiry => Sys2Proof.Machine.execPollLockoutExpiry s
  | .busyWindowEnd bay => Sys2Proof.Machine.execBusyWindowEnd bay s
  | .claimWaitExpiry site => Sys2Proof.Machine.execClaimWaitExpiry site s
  | .breakTimerExpiry site bay => Sys2Proof.Machine.execBreakTimerExpiry site bay s
  | .gapTimerExpiry site => Sys2Proof.Machine.execGapTimerExpiry site s
  | .spacingTimerExpiry site bay => Sys2Proof.Machine.execSpacingTimerExpiry site bay s
  | .makeTimerExpiry site bay => Sys2Proof.Machine.execMakeTimerExpiry site bay s
  | .settleTimerExpiry site => Sys2Proof.Machine.execSettleTimerExpiry site s
  | .hotHoldExpiry site => Sys2Proof.Machine.execHotHoldExpiry site s
  | .stepSettleExpiry site => Sys2Proof.Machine.execStepSettleExpiry site s
  | .dwellExpiry site => Sys2Proof.Machine.execDwellExpiry site s
  | .stepWaitExpiry site => Sys2Proof.Machine.execStepWaitExpiry site s
  | .cleanupBreakHoldExpiry site => Sys2Proof.Machine.execCleanupBreakHoldExpiry site s

end Sys2Proof.Machine
end

