-- ==== Sys2Proof/Machine/Step.lean ====
section
/-! DEFINITION. The step: the command at the front of the queue, or the passing of one microsecond. -/

namespace Sys2Proof.Machine

/-- R1: one microsecond passes: the timebase counts up by one, and wraps. -/
def State.tick (s : State) : State := { s with now := s.now + 1 }

/-- One step: the command at the front of the queue takes effect on the state with the rest of the queue; on an empty queue the
timebase counts one microsecond (DESIGN CHOICE, log 1). -/
def step (s : State) : Host.Outcome State Fault Refusal :=
  match s.pending with
  | [] => .next s.tick
  | c :: rest => exec c { s with pending := rest }

/-- The state with the command that a word spells at the front of its queue; unchanged where the word spells none. -/
def State.withFetchWord (s : State) (nbits w : Nat) : State :=
  match decodeTableWord nbits w with
  | some c => { s with pending := c :: s.pending }
  | none => s

end Sys2Proof.Machine
end

