-- ==== Sys2Proof/Safety.lean ====
section
/-! DEFINITION. What a sound state is: the laws of the manual that hold of the state between any two commands, and the terms in which
the statements about commands speak. -/

namespace Sys2Proof.Machine

/-! ## The laws of the image and of the relay health unit -/

/-- R10, R18: the closed relays are listed once each in ascending order, every relay of a bay that is not ONLINE is OPEN, and such a
bay's busy window is CLEAR. -/
structure State.ImageSound (s : State) : Prop where
  ascending : ascendingSet s.image.closed
  online : ∀ n ∈ s.image.closed, s.link.bays[relayBay n].state = .online
  clear : ∀ b : BayId, s.link.bays[b].state ≠ .online → s.image.windows[b] = none

/-- R143, R153: the wear table lists the relays with a non-zero counter once each in ascending order, and no counter exceeds
4,294,967,295. -/
structure State.WearSound (s : State) : Prop where
  ascending : (s.health.wear.map Prod.fst).Pairwise (· < ·)
  nonzero : ∀ e ∈ s.health.wear, 1 ≤ e.2
  bounded : ∀ e ∈ s.health.wear, e.2 ≤ Config.wearMax

/-- R154: a relay carries the WORN mark exactly when its warn threshold is non-zero and its counter is at least that threshold, and the
RETIRED mark in the same way by its retire threshold. -/
structure State.MarksSound (s : State) : Prop where
  wornAscending : ascendingSet s.health.worn
  retiredAscending : ascendingSet s.health.retired
  worn : ∀ n : RelayNo, n ∈ s.health.worn ↔
    (s.relayThresholds n).warn ≠ 0 ∧ (s.relayThresholds n).warn.toNat ≤ s.wearOf n
  retired : ∀ n : RelayNo, n ∈ s.health.retired ↔
    (s.relayThresholds n).retire ≠ 0 ∧ (s.relayThresholds n).retire.toNat ≤ s.wearOf n

/-! ## The laws of the lanes, the contexts and the registers -/

/-- R37, R46: a halt reason is present exactly in HALTED, the poll timer runs in IDLE only, and the missed-strobe count and its
snapshot are at most 65,535. -/
structure Lane.Sound (l : Lane) : Prop where
  halt : l.halt.isSome = true ↔ l.state = .halted
  poll : l.pollTimer.isSome = true → l.state = .idle
  missed : l.missed ≤ 65535
  snapshot : l.snapshot ≤ 65535

/-- R131, R148: the step timeouts saturate at 65,535, the mismatch count at 255, and the mismatch list holds at most eight entries in
ascending relay number. -/
structure Context.Sound (c : Context) : Prop where
  timeouts : c.stepTimeouts ≤ 65535
  count : c.acc.mismatchCount ≤ 255
  entries : c.acc.mismatches.length ≤ 8
  ascending : (c.acc.mismatches.map Mismatch.relay).Pairwise (· < ·)

/-- Every lane is sound. -/
def State.LanesSound (s : State) : Prop := ∀ n : LaneId, s.lanes[n].Sound

/-- Every switch context is sound. -/
def State.ContextsSound (s : State) : Prop := ∀ n : SiteId, s.contexts[n].Sound

/-! ## The laws of the paths and the claims -/

/-- R19, R20, R27, R63: a PENDING path, and no other, has a prior state; an UNDEFINED one, and no other, has no crosspoint; a definition has at
most 16 distinct crosspoints on at most four rows, which are its row set; the paths that an order in flight named are PENDING paths
of its site; and a path that holds a row has it in its row set and is PENDING, ACTIVE or BROKEN. -/
structure State.PathsSound (s : State) : Prop where
  prior : ∀ p : PathId, s.paths[p].prior.isSome = true ↔ s.paths[p].state = .pending
  defined : ∀ p : PathId, s.paths[p].state = .undefined ↔ s.paths[p].crosspoints = []
  distinct : ∀ p : PathId, s.paths[p].crosspoints.Nodup ∧ s.paths[p].crosspoints.length ≤ 16 ∧ s.paths[p].rowSet.length ≤ 4
  rowSet : ∀ p : PathId, s.paths[p].rowSet = ascending (s.paths[p].crosspoints.map Prod.fst)
  named : ∀ (n : SiteId) (p : PathId), p ∈ s.contexts[n].disconnect ++ s.contexts[n].connect →
    s.paths[p].state = .pending ∧ s.paths[p].site = n
  holders : ∀ (r : RowId) (p : PathId), s.arbiter.holders[r] = .path p →
    r ∈ s.paths[p].rowSet ∧ (s.paths[p].state = .pending ∨ s.paths[p].state = .active ∨ s.paths[p].state = .broken)

/-- R61, R69, R71, R96: the waiting list holds at most one entry per lane, each of some rows in ascending order; a lane that has an entry, or
whose context works on an order, is RUNNING and has not reported the order's end; and no walk is owed. -/
structure State.ClaimsSound (s : State) : Prop where
  single : (s.arbiter.waiting.map WaitEntry.lane).Nodup
  rows : ∀ e ∈ s.arbiter.waiting, e.rows ≠ [] ∧ ascendingSet e.rows
  waiting : ∀ e ∈ s.arbiter.waiting, s.lanes[siteLane e.lane].state = .running ∧ s.lanes[siteLane e.lane].access = none
  working : ∀ n : SiteId, s.contexts[n].order.isSome = true →
    s.lanes[siteLane n].state = .running ∧ s.lanes[siteLane n].access = none
  walked : s.arbiter.walkOwed = false

/-! ## Terms of the statements -/

/-- Between two commands no walk is owed; and no passage of ENABLE, PARK_ALL or DISABLE is in progress. -/
structure State.Quiet (s : State) : Prop where
  walk : s.arbiter.walkOwed = false
  passage : s.host.passage = .idle

/-- The commands that may lower a wear counter (R153): WEAR_CLEAR, a transfer of WEAR_LOAD, a transfer of the load at ENABLE, the end of
that load by a timeout (R54), and the resets. -/
def State.mayLowerWear (s : State) : Instr → Bool
  | .wearClear | .wearLoadTransferDone _ _ | .enableWearTransferDone _ _ | .powerOnReset | .pcieHotReset | .resetDevice => true
  | .memoryAccessTimeout _ =>
    match s.host.passage with
    | .wearLoad _ => true
    | _ => false
  | _ => false

/-- An access that the step from `s` to `t` has issued: its tag is new, and it carries the time of the step. -/
def Issued (s t : State) (access : Option MemAccess) (req : MemReq) : Prop :=
  ∃ tag, s.nextTag ≤ tag ∧ tag < t.nextTag ∧ access = some { tag := tag, issued := s.now, req := req }

/-- The access of a lane that the step has issued. -/
def LaneIssued (s t : State) (n : LaneId) (op : LaneOp) (req : MemReq) : Prop :=
  ∃ tag, s.nextTag ≤ tag ∧ tag < t.nextTag ∧
    t.lanes[n].access = some { op := op, access := { tag := tag, issued := s.now, req := req } }

/-- R53: the step writes a lane's status word, with causes to follow: the write waits for the one in flight, or it is issued at once with
the fields as they stand. -/
def LaneWordWritten (s t : State) (n : LaneId) (causes : BitVec 7) : Prop :=
  (s.lanes[n].port.access.isSome = true →
    t.lanes[n].port = { s.lanes[n].port with owed := s.lanes[n].port.owed ++ [causes] }) ∧
  (s.lanes[n].port.access = none → s.lanes[n].port.owed = [] →
    Issued s t t.lanes[n].port.access (.write (s.laneStatusAddr n) t.lanes[n].statusWord) ∧
      t.lanes[n].port.causes = causes ∧ t.lanes[n].port.owed = [])

/-- R160: the same of a bay's status word. -/
def BayWordWritten (s t : State) (b : BayId) (causes : BitVec 7) : Prop :=
  (s.link.bays[b].port.access.isSome = true →
    t.link.bays[b].port = { s.link.bays[b].port with owed := s.link.bays[b].port.owed ++ [causes] }) ∧
  (s.link.bays[b].port.access = none → s.link.bays[b].port.owed = [] →
    Issued s t t.link.bays[b].port.access (.write (s.bayStatusAddr b) (t.link.bays[b].statusWord t.link.rate)) ∧
      t.link.bays[b].port.causes = causes ∧ t.link.bays[b].port.owed = [])

/-- The step changes lane `n`, issues accesses, and changes nothing else. -/
def ChangesLane (s t : State) (n : LaneId) : Prop :=
  t = { s with lanes := setAt s.lanes n t.lanes[n], nextTag := t.nextTag }

/-- R43: what a start event reads: the record that NEXT names, or the link of the record that AT_TAIL names. -/
def startRead (c : Cursor) : Option (LaneOp × MemReq) :=
  match c with
  | .empty => none
  | .next y => some (.recordRead, .read y 64)
  | .atTail x => some (.linkRead, .read (x + 8) 8)

/-- R43: lane `n` takes a start event from `l`: it enters FETCHING and reads what its cursor names. -/
def StartTaken (s t : State) (n : LaneId) (l : Lane) : Prop :=
  (∃ r, startRead l.cursor = some r ∧ LaneIssued s t n r.1 r.2) ∧
    t.lanes[n] =
      { l with
        state := .fetching, halt := none, pollTimer := none, access := t.lanes[n].access, port := t.lanes[n].port } ∧
    LaneWordWritten s t n 0

/-- R45: the poll timer of a lane that enters IDLE. -/
def idlePoll (s : State) (l : Lane) : Option Time :=
  if l.desc.mode = .free ∧ l.desc.pollInterval ≠ 0 then some s.now else none

/-- A lane returns from another state to IDLE, as `l` but for its state, halt reason, poll timer, access and status word. -/
def ReturnsToIdle (s t : State) (n : LaneId) (l : Lane) : Prop :=
  t.lanes[n] =
      { l with
        state := .idle, halt := none, pollTimer := idlePoll s l, access := none, port := t.lanes[n].port } ∧
    (s.lanes[n].state ≠ .idle → LaneWordWritten s t n 0) ∧ ChangesLane s t n

/-- R49 steps 1 to 3: lane `n` starts an order from `l`, which holds the record. -/
def OrderStarted (s t : State) (n : LaneId) (l : Lane) : Prop :=
  let snapshot := if l.desc.mode = .strobed then l.missed else 0
  t.lanes[n] =
      { l with
        started := s.now, cadenceTimer := if l.desc.cadence = 0 then none else some s.now, snapshot := snapshot
        missed := 0, offsetTimer := none, access := t.lanes[n].access } ∧
    LaneIssued s t n .startResult (.write (l.record + 64) (startResult s.now snapshot).octets) ∧ ChangesLane s t n

/-- The RDY lines after the halt of a lane, or another drop (R108): that of the lane's site is low. -/
def rdyDropped (s : State) (n : LaneId) : Vector Bool 8 :=
  Vector.ofFn fun m : SiteId => if m.val = n.val then false else s.rdy[m]

/-- R53, R108: lane `n` halts, as `l` but for what a halt changes. -/
def LaneHalted (s t : State) (n : LaneId) (reason : HaltReason) (causes : BitVec 7) (l : Lane) : Prop :=
  t.lanes[n] =
      { l with
        state := .halted, halt := some reason, pollTimer := none, offsetTimer := none, held := none, deferred := .none
        memoryOwed := false, access := none, port := t.lanes[n].port } ∧
    LaneWordWritten s t n causes ∧
    t = { s with lanes := setAt s.lanes n t.lanes[n], rdy := rdyDropped s n, nextTag := t.nextTag }

/-- R50, R51, R105: the order of context `n` has ended with a code: the context has returned to NONE, and its lane writes the result. -/
def OrderReported (s t : State) (n : SiteId) (code : Code) (acc : Accumulators) : Prop :=
  let l := s.lanes[siteLane n]
  t.contexts[n] = .reset ∧ t.lanes[siteLane n].final = code.final ∧
    LaneIssued s t (siteLane n) .endResult
      (.write (l.record + 64)
        (endResult code acc s.contexts[n].stepsReady s.contexts[n].stepTimeouts l.snapshot l.started s.now).octets)

/-- R50, R51: the service order has ended with a code and a failing index, and lane 8 writes the result. -/
def ServiceReported (s t : State) (code : Code) (failing : Option Nat) : Prop :=
  let l := s.lanes[serviceLane]
  t.service = .reset ∧ t.lanes[serviceLane].final = code.final ∧
    LaneIssued s t serviceLane .endResult
      (.write (l.record + 64)
        (endResult code (accFailing failing) 0 0 l.snapshot l.started s.now).octets)

/-- R69: no entry of the waiting list is the lane's. -/
def NotWaiting (s : State) (n : SiteId) : Prop := ∀ e ∈ s.arbiter.waiting, e.lane ≠ n

/-- The order of context `n` is there, has taken no ending, and has no frame in flight. -/
structure Going (s : State) (n : SiteId) : Prop where
  active : s.contexts[n].order.isSome = true
  ending : s.contexts[n].ending = none
  free : s.inFlight n = false

/-- R13: bay `b` has dropped into a state: its relays are OPEN and its window is CLEAR, and every other bay's are as they were. -/
structure BayDropped (s t : State) (b : BayId) (state : BayState) (reasons : BitVec 3) : Prop where
  entered : t.link.bays[b].state = state ∧ t.link.bays[b].reasons = reasons
  relays : ∀ n : RelayNo, n ∈ t.image.closed ↔ n ∈ s.image.closed ∧ relayBay n ≠ b
  windows : ∀ c : BayId, t.image.windows[c] = if c = b then none else s.image.windows[c]
  others : ∀ c : BayId, c ≠ b → t.link.bays[c].state = s.link.bays[c].state
  word : s.isOperating = true → BayWordWritten s t b causeBay
  health : t.health = s.health

/-- R33: the paths after the drop of bay `b`, where no order is in flight. -/
def PathsMarked (s t : State) (b : BayId) : Prop :=
  ∀ p : PathId, t.paths[p] =
    if s.paths[p].state = .active ∧ ∃ n ∈ s.relaySet p, relayBay n = b then { s.paths[p] with state := .broken } else s.paths[p]

/-- No switch context works on an order. -/
def State.NoOrders (s : State) : Prop := ∀ n : SiteId, s.contexts[n].order = none ∧ s.contexts[n].ending = none

/-- R162: a slot of a POLL shows a request: an octet is there, and its request bit is set unless its check or its address is wrong. -/
def SlotRequests (k : BayId) (slot : Option Byte) : Prop :=
  ∃ o, slot = some o ∧ (o.extractLsb' 4 4 = ~~~(o.extractLsb' 0 4) → (o.extractLsb' 1 3).toNat = k.val → o.getLsbD 0 = true)

/-- R162: a bay that is given follow-ups. -/
def Followed (s : State) (b : BayId) : Prop :=
  s.link.bays[b].state = .online ∨ s.link.bays[b].state = .held ∨ s.link.bays[b].state = .absent

/-- No row is live (R117). -/
def State.NoLiveRow (s : State) : Prop := ∀ r : RowId, s.rowLive r = false

/-- A timer has run its length. -/
def State.Ran (s : State) (t : Timer) : Prop := t.length ≤ (s.now - t.start).toNat

/-- R100, R102: a phase timer that keeps its phase open. -/
def PhaseTimer.Open (t : PhaseTimer) : Prop := t = .notStarted ∨ ∃ timer, t = .running timer

/-- R138: the cleanup wave of a scan whose current column is `col`: its CLOSED relays of the column, opened. -/
def State.cleanupWave (s : State) (row : RowId) (col : ColumnId) : Wave :=
  let relays := [crosspoint row col, isolation (columnBay col) row].filter s.isClosed
  { bay := columnBay col, closing := false, relays := relays, span := s.breakHold relays, bounce := 0, hot := [], source := .cleanup }

/-- R135, R136: an event that advances an awaited step of a scan. -/
def AdvancesStep (s : State) (n : SiteId) (i : Instr) : Prop :=
  let c := s.contexts[n]
  c.scanPhase = .await ∧
    (i = .dwellExpiry n ∧ c.scanOps.advance = .dwell ∧ (∃ timer, c.advanceTimer = some timer ∧ s.Ran timer) ∨
      i = .stpEdge n ∧ c.scanOps.advance ≠ .dwell ∨
      i = .stepWaitExpiry n ∧ c.scanOps.advance = .lenient ∧ ∃ timer, c.advanceTimer = some timer ∧ s.Ran timer)

/-- R40: the kinds that a lane accepts: SWITCH, PARK, VERIFY and SCAN on a site lane, DEFINE, UNDEFINE, WEAR_SAVE, WEAR_LOAD and
WEAR_CLEAR on the service lane. -/
def KindAccepted (n : LaneId) (kind : Byte) : Prop :=
  n ≠ serviceLane ∧ (kind = 1 ∨ kind = 2 ∨ kind = 3 ∨ kind = 4) ∨
    n = serviceLane ∧ (kind = 5 ∨ kind = 6 ∨ kind = 7 ∨ kind = 8 ∨ kind = 9)

/-- R171: a failure ends ENABLE: the code stands in STATUS, the device is DISABLED with the ENABLE cause, every bay is ABSENT with its timers
stopped, the rate is unset and the configuration copies hold their reset values; the lanes and the path table are as they were. -/
def EnableFailed (s t : State) (code : EnableFailure) (causes : BitVec 7) : Prop :=
  t.host = { s.host with
    failure := code, device := .disabled, passage := .idle, access := none, cause := s.host.cause ||| causes } ∧
  t.cfg = .reset ∧ t.health.wearArea = 0 ∧ t.link.rate = none ∧ t.link.brst = s.link.brst ∧ t.image = .reset ∧
  t.health.wear = s.health.wear ∧ t.health.suspect = s.health.suspect ∧
  (∀ b : BayId, t.link.bays[b].state = .absent ∧ t.link.bays[b].keepAlive = none ∧ t.link.bays[b].reprobe = none ∧
    t.link.bays[b].port = s.link.bays[b].port) ∧
  (∀ n : LaneId, t.lanes[n] = { s.lanes[n] with desc := .reset }) ∧ t.paths = s.paths ∧ t.arbiter = s.arbiter ∧
  t.contexts = s.contexts

/-- R46: what one strobe does to a site lane of an ENABLED device, by its mode, its state, its cadence timer and its cursor. -/
def StrobeTaken (s t : State) (n : SiteId) : Prop :=
  let l := s.lanes[siteLane n]
  (l.desc.mode = .strobed ∧ l.state = .idle ∧ l.cadenceTimer = none ∧ l.cursor ≠ .empty →
    StartTaken s t (siteLane n) { l with offsetTimer := some s.now }) ∧
  (l.desc.mode = .strobed ∧ (l.state = .idle ∧ l.cadenceTimer ≠ none ∧ l.cursor ≠ .empty ∨ l.state = .fetching ∨
      l.state = .offset ∨ l.state = .running) →
    t.lanes[siteLane n] = { l with missed := min (l.missed + 1) 65535 }) ∧
  (l.desc.mode = .free ∨ l.state = .idle ∧ l.cursor = .empty ∨ l.state = .halted ∨ l.state = .disabled →
    t.lanes[siteLane n] = l)

/-! ### The start of an order -/

/-- R49 step 5: site lane `n` has its TAKEN write in flight and will hand its context the order of its held record, of a kind; no command
waits for it, no frame of its context is on the link, and its context has left no row to a scan. -/
structure HandsOver (s : State) (n : SiteId) (m : MemAccess) (h : HeldRecord) (kind : Byte) : Prop where
  quiet : s.Quiet
  access : s.lanes[siteLane n].access = some { op := .taken, access := m }
  held : s.lanes[siteLane n].held = some h
  kind : byteAt h.bytes 1 = kind
  deferred : s.lanes[siteLane n].deferred = .none
  free : s.inFlight n = false
  scans : ∀ r : RowId, s.arbiter.holders[r] ≠ .scan n
  claims : s.ClaimsSound
  paths : s.PathsSound

/-- R95: the order that lane `n` hands over from its held record. -/
def State.orderOf (s : State) (n : SiteId) (h : HeldRecord) (kind : OrderKind) : Order :=
  { kind := kind, flags := le16 h.bytes 2, operands := (h.bytes.drop 16).take 48, hotWait := s.lanes[siteLane n].desc.hotWait }

/-- R50, R51: the order that lane `n` has just handed over has ended with a code: the context is in NONE, and the lane, RUNNING, writes the
result. -/
def StartReported (s t : State) (n : SiteId) (h : HeldRecord) (code : Code) (acc : Accumulators) : Prop :=
  let l := s.lanes[siteLane n]
  t.contexts[n] = .reset ∧ t.lanes[siteLane n].state = .running ∧ t.lanes[siteLane n].final = code.final ∧
    LaneIssued s t (siteLane n) .endResult
      (.write (h.addr + 64) (endResult code acc 0 0 l.snapshot l.started s.now).octets)

/-- The order that lane `n` has just handed over has ended with nothing left of it: its context and plan slot are empty, RDY has the level
named, every path is in the state it was in and every row with its holder. -/
def StartEnds (s t : State) (n : SiteId) (h : HeldRecord) (code : Code) (acc : Accumulators) (rdy : Bool) : Prop :=
  StartReported s t n h code acc ∧
    t = { s with
      contexts := setAt s.contexts n .reset, plans := setAt s.plans n none, rdy := setAt s.rdy n rdy
      lanes := setAt s.lanes (siteLane n) t.lanes[siteLane n], nextTag := t.nextTag }

/-- R29, R30, R108: a start that fails. -/
def StartFails (s t : State) (n : SiteId) (h : HeldRecord) (code : Code) (acc : Accumulators) : Prop :=
  StartEnds s t n h code acc false

/-- R27: the fault of an id of a list, after the ids that stand before it. -/
def State.idFault (s : State) (n : SiteId) (before : List PathId) (p : PathId) : Option Code :=
  if s.paths[p].state = .undefined then some .pathUndefined
  else if s.paths[p].site ≠ n then some .pathNotOwned
  else if p ∈ before then some .badOperand
  else none

/-- R27: every id of a list is valid. -/
def State.IdsValid (s : State) (n : SiteId) (ids : List PathId) : Prop :=
  ∀ (k : Nat) (p : PathId), ids[k]? = some p → s.idFault n (ids.take k) p = none

/-- R27: the named paths have entered PENDING with their prior states, and no other entry has changed. -/
def PathsNamed (s t : State) (ids : List PathId) : Prop :=
  ∀ p : PathId, t.paths[p] =
    if p ∈ ids then
      { s.paths[p] with
        state := .pending
        prior := match s.paths[p].state with
          | .idle => some .idle
          | .active => some .active
          | .broken => some .broken
          | .undefined | .pending => s.paths[p].prior }
    else s.paths[p]

/-- A path is ACTIVE or BROKEN: it has rows, and relays that may be CLOSED. -/
def State.Connected (s : State) (p : PathId) : Prop := s.paths[p].state = .active ∨ s.paths[p].state = .broken

/-- R64: connect path `p` needs row `r`: the row is in its row set, it does not hold it, and no connected path of the disconnect list does. -/
def State.NeedsRow (s : State) (ds : List PathId) (p : PathId) (r : RowId) : Prop :=
  r ∈ s.paths[p].rowSet ∧ s.arbiter.holders[r] ≠ .path p ∧ ∀ x ∈ ds, s.Connected x → s.arbiter.holders[r] ≠ .path x

/-- R65: a row is held by a path of site `n`. -/
def State.HeldAt (s : State) (n : SiteId) (r : RowId) : Prop := ∃ q : PathId, s.arbiter.holders[r] = .path q ∧ s.paths[q].site = n

/-- R65: the connect path at position `i` conflicts: it needs a row held by a path of its own site, or shares a row with an earlier one. -/
def State.ConflictsAt (s : State) (n : SiteId) (ds cs : List PathId) (i : Nat) : Prop :=
  ∃ p, cs[i]? = some p ∧
    ((∃ r, s.NeedsRow ds p r ∧ s.HeldAt n r) ∨ ∃ j q r, j < i ∧ cs[j]? = some q ∧ r ∈ s.paths[p].rowSet ∧ r ∈ s.paths[q].rowSet)

/-- R64: the rows of a claim. -/
def State.ClaimRows (s : State) (ds cs : List PathId) (rows : List RowId) : Prop :=
  ascendingSet rows ∧ ∀ r, r ∈ rows ↔ ∃ p ∈ cs, s.NeedsRow ds p r

/-- R67: a claim is granted at once: it needs no row, or nothing waits and all its rows are FREE. -/
def State.GrantedAtOnce (s : State) (rows : List RowId) : Prop :=
  rows = [] ∨ s.arbiter.waiting = [] ∧ ∀ r ∈ rows, s.arbiter.holders[r] = .free

/-- R70: no entry of the waiting list can be granted as the rows stand, and neither can a claim of `rows` behind them. -/
def State.AllBlocked (s : State) (rows : List RowId) : Prop :=
  (∀ (i : Nat) (e : WaitEntry), s.arbiter.waiting[i]? = some e → ∃ r ∈ e.rows, s.arbiter.holders[r] ≠ .free ∨
    ∃ (j : Nat) (e' : WaitEntry), j < i ∧ s.arbiter.waiting[j]? = some e' ∧ r ∈ e'.rows) ∧
  ∃ r ∈ rows, s.arbiter.holders[r] ≠ .free ∨ ∃ e ∈ s.arbiter.waiting, r ∈ e.rows

/-- R67, R69: the claim of lane `n` waits: it is the youngest entry of the waiting list, its paths are PENDING, its context is as said, and
nothing else has changed. -/
def ClaimWaits (s t : State) (n : SiteId) (ids : List PathId) (rows : List RowId) (c : Context) : Prop :=
  t.contexts[n] = c ∧ PathsNamed s t ids ∧ t.lanes[siteLane n].state = .running ∧ t.lanes[siteLane n].access = none ∧
    t = { s with
      arbiter := { s.arbiter with waiting := s.arbiter.waiting ++ [{ lane := n, rows := rows, enqueued := s.now }] }
      contexts := setAt s.contexts n c, paths := t.paths
      lanes := setAt s.lanes (siteLane n) t.lanes[siteLane n], nextTag := t.nextTag }

/-! ### The planning event -/

/-- R80, R81: the `k`-th path of the disconnect list gives relay `x` to O: the path is connected, the relay is of its relay set and CLOSED,
and no connect path has it in its whole relay set. -/
def State.Opens (s : State) (ds cs : List PathId) (k : Nat) (x : RelayNo) : Prop :=
  ∃ p, ds[k]? = some p ∧ s.Connected p ∧ x ∈ s.relaySet p ∧ x ∈ s.image.closed ∧ ∀ q ∈ cs, x ∉ s.wholeRelaySet q

/-- R80: the `k`-th path of the connect list gives relay `x` to C: the path is IDLE or BROKEN, and the relay is of its whole relay set and
OPEN. -/
def State.Closes (s : State) (cs : List PathId) (k : Nat) (x : RelayNo) : Prop :=
  ∃ p, cs[k]? = some p ∧ (s.paths[p].state = .idle ∨ s.paths[p].state = .broken) ∧ x ∈ s.wholeRelaySet p ∧ x ∉ s.image.closed

/-- R84: the path at failing index `i` gives a relay to O or to C for which `bad` holds; `bad` is asked with the path's entry. -/
def State.PartFails (s : State) (ds cs : List PathId) (bad : PathEntry → RelayNo → Prop) (i : Nat) : Prop :=
  (∃ p x, ds[i]? = some p ∧ s.Opens ds cs i x ∧ bad s.paths[p] x) ∨
    ∃ k p x, i = 8 + k ∧ cs[k]? = some p ∧ s.Closes cs k x ∧ bad s.paths[p] x

/-- `P` holds at `i` and nowhere before. -/
def FirstAt (P : Nat → Prop) (i : Nat) : Prop := P i ∧ ∀ j < i, ¬ P j

/-- R83, R84: the check of a plan that fails first, with its code and failing index: a RETIRED relay in C, a bay that is not ONLINE, a live
row under a REFUSE policy, and a planned time above a budget that is not 0. -/
def State.PlanFails (s : State) (ds cs : List PathId) (budget planned : Nat) (code : Code) (failing : Option Nat) : Prop :=
  let retired := s.PartFails [] cs fun _ x => s.isRetired x = true
  let offline := s.PartFails ds cs fun _ x => s.link.bays[relayBay x].state ≠ .online
  let refused := s.PartFails ds cs fun p x => p.policy = .refuse ∧ s.rowLive (relayRow x) = true
  (code = .relayRetired ∧ ∃ i, failing = some i ∧ FirstAt retired i) ∨
    (∀ i, ¬ retired i) ∧ (code = .bayUnavailable ∧ (∃ i, failing = some i ∧ FirstAt offline i) ∨
      (∀ i, ¬ offline i) ∧ (code = .hotRefused ∧ (∃ i, failing = some i ∧ FirstAt refused i) ∨
        (∀ i, ¬ refused i) ∧ code = .overBudget ∧ failing = none ∧ budget ≠ 0 ∧ budget < planned))

/-- R80, R81: at its planning event path `p` of context `n`'s disconnect list, connected before, gives relay `x` to O. -/
def State.GivesOpening (s : State) (n : SiteId) (p : PathId) (x : RelayNo) : Prop :=
  (s.paths[p].prior = some .active ∨ s.paths[p].prior = some .broken) ∧ x ∈ s.relaySet p ∧ x ∈ s.image.closed ∧
    ∀ q ∈ s.contexts[n].connect, x ∉ s.wholeRelaySet q

/-- R80: at its planning event path `p` of a connect list, IDLE or BROKEN before, gives relay `x` to C. -/
def State.GivesClosing (s : State) (p : PathId) (x : RelayNo) : Prop :=
  (s.paths[p].prior = some .idle ∨ s.paths[p].prior = some .broken) ∧ x ∈ s.wholeRelaySet p ∧ x ∉ s.image.closed

/-- R83, R84, R112: check 2 of the planning event of context `n`, which has been granted its claim, fails at index `i`: a relay that the path
there gives to O or to C lies in a bay that is not ONLINE. -/
def State.BayMissing (s : State) (n : SiteId) (i : Nat) : Prop :=
  let c := s.contexts[n]
  ∃ p x, s.link.bays[relayBay x].state ≠ .online ∧
    (c.disconnect[i]? = some p ∧ s.GivesOpening n p x ∨ ∃ k, i = 8 + k ∧ c.connect[k]? = some p ∧ s.GivesClosing p x)

/-- The first closing wave of every bay of C, by ascending bay address, with an empty hot set. -/
def firstClosings (waves : BayId → List Wave) : List Wave :=
  (List.finRange 8).filterMap fun b => (waves b).head?.map fun w => { w with hot := [] }

/-- R88: the closing waves of a bay for the relays of C that it holds. -/
def State.closingsOf (s : State) (closing : List RelayNo) (b : BayId) : List Wave :=
  s.closingWaves b (sendOrder (inBay b closing))

/-- R97, R102: the first closing wave of every bay of C is due in context `c`, and the others of the bay stand behind it. -/
def ClosingsDue (s : State) (c : Context) (closing : List RelayNo) : Prop :=
  c.due = firstClosings (s.closingsOf closing) ∧
    ∀ b : BayId, c.nextClosings[b] = (s.closingsOf closing b).tail ∧
      c.makeTimers[b] = if s.closingsOf closing b = [] then PhaseTimer.absent else .notStarted

/-! ### The end of an order -/

/-- R31: the paths that the order of context `n` named are judged on the image and on the rows they hold: IDLE with no relay CLOSED, its rows
FREE; ACTIVE with every relay CLOSED; else BROKEN. That it holds of every role, also where R76 says BROKEN, is the model's reading
(log 53). -/
def PathsJudged (s t : State) (n : SiteId) : Prop :=
  ∀ p ∈ s.contexts[n].disconnect ++ s.contexts[n].connect,
    let closed (r : RelayNo) := r ∈ s.image.closed ∧ s.arbiter.holders[relayRow r] = .path p
    let becomes (state : PathState) (holder : RowHolder) := t.paths[p] = { s.paths[p] with state := state, prior := none } ∧
      ∀ row : RowId, s.arbiter.holders[row] = .path p → t.arbiter.holders[row] = holder
    ((∀ r ∈ s.relaySet p, ¬ closed r) → becomes .idle .free) ∧
      ((∃ r ∈ s.relaySet p, closed r) → (∀ r ∈ s.relaySet p, closed r) → becomes .active (.path p)) ∧
      ((∃ r ∈ s.relaySet p, closed r) → (∃ r ∈ s.relaySet p, ¬ closed r) → becomes .broken (.path p))

/-- R30: the paths that the order of context `n` named return to their prior states; one that was IDLE holds no row, and any other keeps its
rows. -/
def PathsReturned (s t : State) (n : SiteId) : Prop :=
  ∀ p ∈ s.contexts[n].disconnect ++ s.contexts[n].connect, ∀ prior, s.paths[p].prior = some prior →
    t.paths[p] = { s.paths[p] with
      state := match prior with
        | .idle => PathState.idle
        | .active => .active
        | .broken => .broken
      prior := none } ∧
      ∀ row : RowId, s.arbiter.holders[row] = .path p → t.arbiter.holders[row] = if prior = .idle then RowHolder.free else .path p

/-! ### Aborts and PARK_ALL -/

/-- R57, R152: what an abort does to the service order in hand: a clear not yet taken ends ABORTED, and any other takes the abort at its
next access. -/
def ServiceAborted (s t : State) : Prop :=
  (∀ first count, s.service.order = .wearClear first count → ServiceReported s t .aborted none) ∧
    ((∃ list count k, s.service.order = .define list count k) ∨ (∃ j, s.service.order = .wearSave j ∨ s.service.order = .wearLoad j) →
      t.service = { s.service with abort := true } ∧ t.lanes[serviceLane].access = none)

/-- R106, R113: a context whose order an abort has reached while a frame of it is on the link: it has taken the ending ABORTED, its due
waves are withdrawn but for a scan's cleanup wave (R138), its hot hold is over and its timers have stopped, and it awaits the frame.
An ending that it had taken before keeps its code. An abort of PARK_ALL or DISABLE (`park`) leaves the order unjudged (R105), unless it
had an ending (log 55). -/
def abortAwaited (c : Context) (park : Bool) : Context :=
  match c.ending with
  | some _ => { c with abortTaken := true }
  | none =>
    { c with
      ending := some .aborted, abortTaken := true, unjudged := c.unjudged || park, acc := { c.acc with failing := none }
      due := c.due.filter fun w => w.source == .cleanup
      held := none, holdQueue := [], breakTimers := .replicate 8 .absent, gapTimer := none, nextClosings := .replicate 8 []
      spacingTimers := .replicate 8 none, makeTimers := .replicate 8 .absent, settleTimer := none, senseDue := []
      advanceTimer := none }

/-- The order of context `n` is there, has a frame on the link, and waits for no claim. -/
structure FrameAwaited (s : State) (n : SiteId) : Prop where
  active : s.contexts[n].order.isSome = true
  frame : s.inFlight n = true
  granted : NotWaiting s n

/-- R60: lane `n` has halted with PARKED, its cursor at `cursor` and its missed-strobe count kept; CAUSE holds `causes`. -/
def HaltedParked (s t : State) (n : LaneId) (cursor : Cursor) (causes : BitVec 7) : Prop :=
  t.lanes[n].state = .halted ∧ t.lanes[n].halt = some .parked ∧ t.lanes[n].access = none ∧ t.lanes[n].deferred = .none ∧
    t.lanes[n].held = none ∧ t.lanes[n].cursor = cursor ∧ t.lanes[n].missed = s.lanes[n].missed ∧ t.host.cause = causes

/-- R57: lane `n` in OFFSET writes its held record ABORTED, with both timestamps now and the no-index value. -/
def OffsetAborted (s t : State) (n : LaneId) : Prop :=
  t.lanes[n].state = .offset ∧ t.lanes[n].final = .aborted ∧ t.lanes[n].offsetTimer = none ∧
    LaneIssued s t n .endResult (.write (s.lanes[n].record + 64)
      (Result.octets ⟨18, 0, 0xFFFF, 0, 0, s.now, s.now, 0, 0, 0, 0, 0, 0, 0, 0, []⟩)) ∧
    ∀ m : SiteId, m.val = n.val → t.rdy[m] = false

/-- R14, R172 step 2: the wave that opens every CLOSED relay of a bay. -/
def State.parkWave (s : State) (b : BayId) : Wave :=
  let relays := s.image.closed.filter fun x => relayBay x == b
  { bay := b, closing := false, relays := relays, span := s.breakHold relays, bounce := 0, hot := [], source := .park }

/-- R34, R172 steps 3 and 4, R173 step 2: PARK_ALL (`d` PARKING) or DISABLE (`d` DISABLING) has cleared the matrix: every defined path is IDLE,
every row FREE, every plan slot empty and every context in NONE. PARK_ALL then ends in ENABLED with PARKED once no lane status word is
in flight or owed, and DISABLE writes the first transfer of the wear table. -/
structure ParkCleared (s t : State) (d : DeviceState) : Prop where
  paths : ∀ p : PathId, t.paths[p] =
    if s.paths[p].state = .undefined then s.paths[p] else { s.paths[p] with state := .idle, prior := none }
  rows : ∀ r : RowId, t.arbiter.holders[r] = .free
  contexts : ∀ n : SiteId, t.contexts[n] = .reset ∧ t.plans[n] = none
  waits : d = .parking → (∃ n : LaneId, t.lanes[n].port.access.isSome = true) →
    t.host.device = .parking ∧ t.host.passage = .parkStatus
  parked : d = .parking → (∀ n : LaneId, t.lanes[n].port.access = none ∧ t.lanes[n].port.owed = []) →
    t.host.device = .enabled ∧ t.host.passage = .idle ∧ t.host.cause.getLsbD 6 = true
  saves : d = .disabling → t.host.device = .disabling ∧ t.host.passage = .disableSave 0 ∧
    Issued s t t.host.access (.write t.health.wearArea (((List.range 16).map fun i => octets 4 (t.wearOf (Fin.ofNat 8320 i))).flatten))

/-- R14, R172 step 2: every lane is parked: the park waves are offered, one for each ONLINE bay with a CLOSED relay, by ascending address;
with none the matrix is clear at once. -/
def ParkProceeds (s t : State) (d : DeviceState) : Prop :=
  let bays := (List.finRange 8).filter fun b => s.bayOnline b && s.image.closed.any fun x => relayBay x == b
  (bays ≠ [] → t.host.device = d ∧ t.host.passage = .parkWaves ∧ t.link.parkDue = bays.map s.parkWave ∧ t.paths = s.paths ∧
    t.arbiter.holders = s.arbiter.holders) ∧
  (bays = [] → t.link.parkDue = [] ∧ ParkCleared s t d)

/-- A lane that PARK_ALL has parked, with nothing in flight. -/
def State.Parked (s : State) (n : LaneId) : Prop :=
  s.lanes[n].state = .halted ∧ s.lanes[n].halt = some .parked ∧ s.lanes[n].access = none ∧ s.lanes[n].deferred = .none

/-! ### Live rows -/

/-- R119: the hot policy that owns the row of relay `x`: its path's, its scan's, or ALLOW where the row is FREE. -/
def State.PolicyOf (s : State) (x : RelayNo) (policy : HotPolicy) : Prop :=
  match s.arbiter.holders[relayRow x] with
  | .path p => policy = s.paths[p].policy
  | .scan m => policy = s.contexts[m].scanOps.hotPolicy
  | .free => policy = .allow

/-- R120: the deciding policy of a wave with hot relays: REFUSE if one of them is owned by REFUSE, else WAIT if one is owned by WAIT, else
ALLOW. -/
def State.Decides (s : State) (w : Wave) (policy : HotPolicy) : Prop :=
  let owned (x : HotPolicy) := ∃ r ∈ w.relays, s.rowLive (relayRow r) = true ∧ s.PolicyOf r x
  (∃ r ∈ w.relays, s.rowLive (relayRow r) = true) ∧
    (policy = .refuse ∧ owned .refuse ∨ policy = .wait ∧ ¬ owned .refuse ∧ owned .wait ∨
      policy = .allow ∧ ¬ owned .refuse ∧ ¬ owned .wait)

/-- R121: the hot set of a wave. -/
def State.hotSet (s : State) (w : Wave) : List RelayNo := w.relays.filter fun r => s.rowLive (relayRow r)

/-- R127: the failing index of a hot ending. Of a SWITCH or a PARK: the first path of the order, in the order of R84, whose policy is the
deciding one and which holds the row of a hot relay; of a SCAN: 8 where its guard path is such a path. The no-index value elsewhere. -/
def State.HotIndex (s : State) (n : SiteId) (w : Wave) (policy : HotPolicy) (failing : Option Nat) : Prop :=
  let ds := s.contexts[n].disconnect
  let cs := s.contexts[n].connect
  let deciding (p : PathId) := s.paths[p].policy = policy ∧ ∃ r ∈ s.hotSet w, s.arbiter.holders[relayRow r] = .path p
  let indexed (i : Nat) := (∃ p, ds[i]? = some p ∧ deciding p) ∨
    (∀ p ∈ ds, ¬ deciding p) ∧ ∃ k p, i = 8 + k ∧ cs[k]? = some p ∧ deciding p
  ∃ o, s.contexts[n].order = some o ∧
    (o.kind ≠ .scan ∧ ((∃ i, failing = some i ∧ FirstAt indexed i) ∨ failing = none ∧ ∀ i, ¬ indexed i) ∨
      o.kind = .scan ∧
        ((∃ p ∈ ds ++ cs, deciding p) ∧ failing = some 8 ∨ (∀ p ∈ ds ++ cs, ¬ deciding p) ∧ failing = none))

/-- R120, R122, R123: the step ends the order of context `n`, which is no scan at work, on account of wave `w`: HOT_REFUSED under REFUSE,
HOT_TIMEOUT under WAIT with a hot-wait limit of 0. -/
def HotEnds (s t u : State) (n : SiteId) (w : Wave) (hotWait : Word32) : Prop :=
  ∀ failing policy, u.Decides w policy → u.HotIndex n w policy failing →
    (policy = .refuse → OrderReported s t n .hotRefused { s.contexts[n].acc with failing := failing }) ∧
    (policy = .wait → hotWait = 0 → OrderReported s t n .hotTimeout { s.contexts[n].acc with failing := failing })

/-! ### Waves and bays -/

/-- R98: the group words of a wave frame: one for each coil group that holds a relay of the wave, with the group's states in the image and
the wave's changes. -/
def State.WordsOf (s : State) (w : Wave) (words : List (Nat × Byte)) : Prop :=
  (words.map Prod.fst).Nodup ∧ (∀ g, g ∈ words.map Prod.fst ↔ ∃ r ∈ w.relays, relayGroup r = g) ∧
    ∀ x ∈ words, ∀ (k : Nat) (r : RelayNo), k < 8 → relayBay r = w.bay → relayIndex r = 8 * x.1 + k →
      x.2.getLsbD k = if r ∈ w.relays then w.closing else decide (r ∈ s.image.closed)

/-- R121, R126: the wave as its frame carries it: a planned wave keeps the hot set of its live check, and that of a cleanup wave or of a
park wave is formed at the grant. -/
def State.sentWave (s : State) (w : Wave) : Wave := if w.source = .planned then w else { w with hot := s.hotSet w }

/-- R99, R116: the accumulators of an order after the acknowledgement of one of its waves; `t` has the marks that the wave has left. -/
def countedAcc (s t : State) (acc : Accumulators) (w : Wave) : Accumulators :=
  { acc with
    waves := acc.waves + 1
    closed := acc.closed + if w.closing = true then w.relays.length else 0
    opened := acc.opened + if w.closing = true then 0 else w.relays.length
    hotOps := acc.hotOps + w.hot.length
    hot := acc.hot || decide (0 < acc.hotOps + w.hot.length)
    worn := acc.worn || w.relays.any t.isWorn
    suspect := acc.suspect || (w.closing && w.relays.any s.isSuspect) }

/-- R13, R157, R159: the events by which ONLINE bay `b` drops: into HELD by a NAK to its WAVE or by a STATUS reply with a reason, and into
FAULTED by the final failure of a frame to it. -/
def DropsBay (s : State) (i : Instr) (b : BayId) (state : BayState) : Prop :=
  s.link.bays[b].state = .online ∧ ∃ f, s.link.frame = some f ∧
    ((∃ w words reasons, f.body = .wave w words ∧ w.bay = b ∧ i = .waveNak reasons ∧ state = .held) ∨
      (f.body = .status ∧ f.bay = b ∧ state = .held ∧ ∃ octet : Byte, i = .statusReply octet ∧ octet.extractLsb' 0 3 ≠ 0) ∨
      (f.body ≠ .poll ∧ f.bay = b ∧ f.repeated = true ∧ f.owner ≠ .discovery ∧ f.owner ≠ .reprobe ∧ state = .faulted ∧
        ∃ fault, i = .frameFinalFailure fault))

/-- R166, R149: discovery has ended with the bay table `bays`: every ONLINE or HELD bay has started its keep-alive timer and the wear load
begins, or ENABLE fails with WEAR_AREA where the wear area is not aligned. -/
def DiscoveryEnds (s t : State) (bays : BayId → Bay) : Prop :=
  (s.health.wearArea.toNat % 64 = 0 →
    t.link.discovery = .reset ∧ t.host = { s.host with passage := .wearLoad 0, access := t.host.access } ∧
      Issued s t t.host.access (.read s.health.wearArea 64) ∧ t.link.rate = s.link.rate ∧
      ∀ c : BayId, t.link.bays[c] =
        if (bays c).state = .online ∨ (bays c).state = .held then { bays c with keepAlive := some s.now, keepAliveDue := false }
        else bays c) ∧
  (s.health.wearArea.toNat % 64 ≠ 0 → EnableFailed s t .wearArea causeEnabled)

/-- R166: a pass has ended with a silent bay at rate `r`: the rate has fallen by one, every expected bay is PROBING with its outcome cleared,
and a new pass has begun. -/
def PassFalls (s t : State) (r : Fin 3) : Prop :=
  t.link.frame = none ∧ t.link.rate = some (r + 1) ∧
    t.link.discovery = ⟨.pass, (List.finRange 8).filter fun b => s.cfg.expected.getLsbD b.val, [], []⟩ ∧
    ∀ c : BayId, s.cfg.expected.getLsbD c.val = true →
      t.link.bays[c].state = .probing ∧ t.link.bays[c].model = 0 ∧ t.link.bays[c].mismatch = false

/-- R166: a pass has ended with its rate fixed, the bay table `bays` and the bays of `waiting` not ready: discovery waits for these. -/
def ReadyWaits (s t : State) (bays : BayId → Bay) (waiting : List WaitingBay) : Prop :=
  t.link.frame = none ∧ t.link.rate = s.link.rate ∧ t.link.discovery = ⟨.waiting, [], [], waiting⟩ ∧
    ∀ c : BayId, t.link.bays[c] = bays c

/-! ### Scans -/

/-- R129: column `i` of a scan's sequence is a column of the part, mapped to the scan's site. -/
def State.ColumnOk (s : State) (n : SiteId) (base : Nat) (stride : Int) (i : Nat) : Prop :=
  ∃ c : ColumnId, (c.val : Int) = base + i * stride ∧ s.cfg.columns[c] = some n

/-- R133: the first closing wave of a step is due in context `c'`, which is `c` but for it; the step's relays are the isolation relay,
where it enters a bay, and the crosspoint. -/
def StepClosingsDue (s : State) (c c' : Context) (row : RowId) (col : ColumnId) (entersBay : Bool) : Prop :=
  let relays := if entersBay = true then [isolation (columnBay col) row, crosspoint row col] else [crosspoint row col]
  ∃ w rest, s.closingWaves (columnBay col) relays = w :: rest ∧
    c' = { c with
      scanPhase := .stepMake, due := c.due ++ [{ w with hot := [] }]
      nextClosings := setAt c.nextClosings (columnBay col) rest, makeTimers := setAt c.makeTimers (columnBay col) .notStarted }

/-- R138: a scan takes an ending with its cleanup wave offered, as `c` but for that. -/
def CleanupOffered (s : State) (c c' : Context) (code : Code) (old : ColumnId) : Prop :=
  c' = { c.stopped with
    ending := some code, acc := { c.acc with failing := none }, scanPhase := .cleanup
    due := [s.cleanupWave c.scanOps.rowId old] }

/-- R133, R136: the phases in which a scan's guard is being connected or a step is at work. -/
def ScanPhase.AtWork (p : ScanPhase) : Prop :=
  p = .guard ∨ p = .stepBreak ∨ p = .stepGap ∨ p = .stepMake ∨ p = .stepSettle ∨ p = .await

/-- R140, R138: an abort, of PARK_ALL or DISABLE (`park`) or of a lane command, of a scan that has passed its checks and has no frame in flight.
At work it offers its cleanup wave, or ends where no relay of its column is CLOSED; in its cleanup it awaits the wave still due, but no
break hold, and it ends in a guard's disconnection. An ending that stands keeps its code (the model's reading, logs 39 and 55). -/
def ScanAborted (s t : State) (n : SiteId) (park : Bool) : Prop :=
  let c := s.contexts[n]
  let wave := fun old => s.cleanupWave c.scanOps.rowId old
  let ends := OrderReported s t n .aborted { c.acc with failing := none } ∧ t.rdy[n] = false
  (c.ending = none →
    (c.scanPhase.AtWork → ∀ old, c.column = some old → (wave old).relays ≠ [] →
      CleanupOffered s { c with abortTaken := true, unjudged := c.unjudged || park } t.contexts[n] .aborted old) ∧
    (c.scanPhase.AtWork → (∀ old, c.column = some old → (wave old).relays = []) → ends) ∧
    (c.scanPhase = .guardOff → ends) ∧
    (c.scanPhase = .cleanup → c.due = [] → ends) ∧
    (c.scanPhase = .cleanup → c.due ≠ [] → (∀ w ∈ c.due, w.source = .cleanup) →
      t.contexts[n] = { c.stopped with
        ending := some .aborted, abortTaken := true, unjudged := c.unjudged || park, acc := { c.acc with failing := none } })) ∧
  ∀ code, c.ending = some code → c.scanPhase = .cleanup →
    (c.due = [] → OrderReported s t n code c.acc ∧ (code ≠ .ok → t.rdy[n] = false)) ∧
    (c.due ≠ [] → t.contexts[n] = { c with abortTaken := true })

/-! ### Memory accesses -/

/-- R54: every access that the part has in flight. -/
def State.accesses (s : State) : List MemAccess :=
  s.host.access.toList ++ s.service.access.toList ++
    ((List.finRange 9).filterMap fun n => s.lanes[n].access.map LaneAccess.access) ++
    ((List.finRange 9).filterMap fun n => s.lanes[n].port.access) ++ (List.finRange 8).filterMap fun b => s.link.bays[b].port.access

/-- The completion in error of a lane's access. -/
def LaneOp.errorOf (op : LaneOp) (n : LaneId) (tag : Nat) : Instr :=
  match op with
  | .recordRead => .recordReadDone n tag none
  | .linkRead | .endLinkRead => .linkReadDone n tag none
  | .headRead => .headReadDone n tag none
  | .startResult => .startResultWriteDone n tag false
  | .taken => .takenWriteDone n tag false
  | .endResult => .endResultWriteDone n tag false
  | .finalState => .stateWriteDone n tag false

/-- R54: access `m` is in flight, and its completion in error is the event `i`. -/
def State.ErrorOf (s : State) (m : MemAccess) (i : Instr) : Prop :=
  (∃ (n : LaneId) (op : LaneOp), s.lanes[n].access = some { op := op, access := m } ∧ i = op.errorOf n m.tag) ∨
    (∃ n : LaneId, s.lanes[n].port.access = some m ∧ i = .laneStatusWriteDone n m.tag false) ∨
    (∃ b : BayId, s.link.bays[b].port.access = some m ∧ i = .bayStatusWriteDone b m.tag false) ∨
    s.host.access = some m ∧
      (s.host.passage = .configRead ∧ i = .configBlockReadDone m.tag none ∨
        (∃ j, s.host.passage = .wearLoad j) ∧ i = .enableWearTransferDone m.tag none ∨
        (∃ j, s.host.passage = .disableSave j) ∧ i = .disableSaveTransferDone m.tag false) ∨
    s.service.access = some m ∧
      ((∃ list count k, s.service.order = .define list count k) ∧ i = .defineEntryReadDone m.tag none ∨
        (∃ j, s.service.order = .wearSave j) ∧ i = .wearSaveTransferDone m.tag false ∨
        (∃ j, s.service.order = .wearLoad j) ∧ i = .wearLoadTransferDone m.tag none)

/-- The tag that a completion of a memory access names, or a timeout. -/
def completionTag : Instr → Option Nat
  | .recordReadDone _ tag _ | .linkReadDone _ tag _ | .headReadDone _ tag _ | .startResultWriteDone _ tag _ | .takenWriteDone _ tag _
  | .endResultWriteDone _ tag _ | .stateWriteDone _ tag _ | .laneStatusWriteDone _ tag _ | .bayStatusWriteDone _ tag _
  | .configBlockReadDone tag _ | .enableWearTransferDone tag _ | .disableSaveTransferDone tag _ | .defineEntryReadDone tag _
  | .wearSaveTransferDone tag _ | .wearLoadTransferDone tag _ | .memoryAccessTimeout tag => some tag
  | _ => none

/-! ### Commands -/

/-- The resets (R176). -/
def isReset : Instr → Bool
  | .powerOnReset | .pcieHotReset | .resetDevice => true
  | _ => false

end Sys2Proof.Machine
end

