-- ==== Sys2Proof/Certificates/Slice0/Obligations.lean ====
section
/-! DEFINITION. The statements about the MC-816 for the provers: what each command does, what it leaves as it was, and the laws that every
step keeps. Each docstring cites the rules that a statement follows; a clause that rests on a choice of the model names its log entry. -/

section

open Sys2Proof Sys2Proof.Machine

/-! ## The queue, the resets and the registers -/

/-- Spec section "What each step holds": a step is one whole command, the one at the front of the queue; on an empty queue one microsecond
passes (R1; that it passes then is the model's choice, log 1). -/
def Obligations.StepRunsTheFrontCommand : Prop :=
  (∀ (c : Instr) (rest : List Instr) (s : State), step { s with pending := c :: rest } = exec c { s with pending := rest }) ∧
  ∀ s : State, s.pending = [] → step s = .next { s with now := s.now + 1 }

/-- R176 with the values of R9, R15, R19, R37, R77, R78, R95, R117, R118, R131, R143, R155, R161 and R168: the registers, the
copies, the image, the wear, the path table, the claims, every context with its timers and accumulators, every lane, the bays and the
link. The 0 of a lane's missed-strobe snapshot is no value of R37: it is the model's choice (log 27). -/
def Obligations.ResetsGiveTheResetValues : Prop :=
  ∀ (s : State) (i : Instr), isReset i = true →
    ∃ t, exec i s = .next t ∧
      t.host.device = .disabled ∧ t.host.refused = false ∧ t.host.failure = .none ∧ t.host.configLo = 0 ∧ t.host.configHi = 0 ∧
      t.host.cause = 0 ∧ t.host.causeEnable = 0 ∧ t.interrupt = false ∧ t.host.passage = .idle ∧ t.host.access = none ∧
      t.cfg.expected = 0 ∧ t.cfg.gap = 0 ∧ (∀ b : BayId, t.cfg.bays[b] = ⟨0, 0, 0, 0, 0⟩) ∧
      (∀ r : RowId, t.cfg.rows[r] = ⟨none, 0, false⟩) ∧ (∀ c : ColumnId, t.cfg.columns[c] = none) ∧
      (∀ ty : TypeId, t.cfg.types[ty] = ⟨0, 0, 0⟩ ∧ t.cfg.hotWeights[ty] = 1 ∧ t.health.thresholds[ty] = ⟨0, 0⟩) ∧
      t.image.closed = [] ∧ (∀ b : BayId, t.image.windows[b] = none) ∧
      t.health.wear = [] ∧ t.health.worn = [] ∧ t.health.retired = [] ∧ t.health.suspect = [] ∧ t.health.wearArea = 0 ∧
      (∀ r : RowId, t.live.enable[r] = false ∧ t.arbiter.holders[r] = .free) ∧ t.arbiter.waiting = [] ∧
      (∀ p : PathId, t.paths[p] = ⟨.undefined, 0, .allow, 0, [], [], none⟩) ∧
      (∀ n : SiteId, t.contexts[n].phase = .none ∧ t.contexts[n].order = none ∧ t.contexts[n].due = [] ∧
        t.contexts[n].held = none ∧ t.contexts[n].holdQueue = [] ∧ t.contexts[n].ending = none ∧
        t.contexts[n].scanPhase = .none ∧ t.contexts[n].stepIndex = 0 ∧ t.contexts[n].column = none ∧
        t.contexts[n].advanceTimer = none ∧ t.contexts[n].stepsReady = 0 ∧ t.contexts[n].stepTimeouts = 0 ∧
        t.contexts[n].cleanupHold = none ∧ t.contexts[n].disconnect = [] ∧ t.contexts[n].connect = [] ∧
        t.contexts[n].passed = false ∧ t.contexts[n].abortTaken = false ∧ t.contexts[n].waveGranted = false ∧
        t.contexts[n].gapTimer = none ∧ t.contexts[n].settleTimer = none ∧ t.contexts[n].verifySet = [] ∧
        t.contexts[n].senseDue = [] ∧ t.contexts[n].acc = ⟨0, 0, 0, 0, 0, false, false, false, none, 0, []⟩ ∧
        t.plans[n] = none ∧ t.rdy[n] = false) ∧
      (∀ (n : SiteId) (b : BayId), t.contexts[n].breakTimers[b] = .absent ∧ t.contexts[n].makeTimers[b] = .absent ∧
        t.contexts[n].spacingTimers[b] = none ∧ t.contexts[n].nextClosings[b] = []) ∧
      (∀ n : LaneId, t.lanes[n].state = .disabled ∧ t.lanes[n].halt = none ∧ t.lanes[n].cursor = .empty ∧
        t.lanes[n].desc = ⟨0, .free, 0, 0, 0, 0, 0⟩ ∧ t.lanes[n].offsetTimer = none ∧ t.lanes[n].cadenceTimer = none ∧
        t.lanes[n].pollTimer = none ∧ t.lanes[n].pendingStart = false ∧ t.lanes[n].missed = 0 ∧ t.lanes[n].held = none ∧
        t.lanes[n].snapshot = 0 ∧ t.lanes[n].access = none ∧ t.lanes[n].port.access = none ∧ t.lanes[n].port.owed = []) ∧
      t.service.order = .none ∧ t.service.access = none ∧
      t.link.rate = none ∧ t.link.frame = none ∧ t.link.poll = .idle ∧ t.link.brst = true ∧ t.link.pointer = 0 ∧ t.link.parkDue = [] ∧
      t.link.discovery.stage = .inactive ∧
      (∀ b : BayId, t.link.bays[b].state = .absent ∧ t.link.bays[b].reasons = 0 ∧ t.link.bays[b].model = 0 ∧
        t.link.bays[b].mismatch = false ∧ t.link.bays[b].keepAlive = none ∧ t.link.bays[b].keepAliveDue = false ∧
        t.link.bays[b].reprobe = none ∧ t.link.bays[b].reprobeDue = false ∧
        t.link.bays[b].port.access = none ∧ t.link.bays[b].port.owed = []) ∧
      t.now = 0

/-- R169, R170, R59, R180: an accepted ENABLE enters ENABLING with the failure code NONE and reads the 1,280 octets of the configuration
block, and nothing else changes; a refused command sets the refused flag and has no other effect. -/
def Obligations.CommandsAreAcceptedOrRefused : Prop :=
  (∀ s : State, s.host.device = .disabled →
    exec .enable s = .next
      { s with
        host := { s.host with
          device := .enabling, refused := false, failure := .none, passage := .configRead
          access := some { tag := s.nextTag, issued := s.now, req := .read (s.host.configHi ++ s.host.configLo) 1280 } }
        nextTag := s.nextTag + 1 }) ∧
  ∀ (s : State) (i : Instr),
    (i = .enable ∧ s.host.device ≠ .disabled ∨
      ((i = .disable ∨ i = .parkAll ∨
          ∃ a, i = .laneSkip a ∨ i = .laneReset a ∨ i = .laneResume a ∨ i = .laneStart a ∨ i = .strobe a) ∧
        s.host.device ≠ .enabled) ∨
      (∃ a : BitVec 16, 8 < a.toNat ∧ (i = .laneSkip a ∨ i = .laneReset a ∨ i = .laneResume a)) ∨
      (∃ (a : BitVec 16) (n : LaneId), a.toNat = n.val ∧ s.lanes[n].state ≠ .halted ∧ i = .laneResume a) ∨
      ∃ c a, i = .unknownCommand c a) →
    exec i s = .next { s with host := { s.host with refused := true } }

/-- R168, R174, R180: a read of CAUSE returns the bytes read and clears all seven bits, a write to CAUSE_ENABLE sets the seven enable bits
if it writes their byte, and INT is asserted exactly while some bit is set in both. CONFIG_LO and CONFIG_HI take the bytes written in
DISABLED, the low 12 bits of CONFIG_LO excepted, and keep their value with the refused flag set in any other state; writes to IDENT, STATUS
and CAUSE are ignored. That a read of CAUSE is kept in a field is the model's (log 29). -/
def Obligations.RegisterAccesses : Prop :=
  (∀ (s : State) (bytes : BitVec 4) (value : Word32),
    exec (.causeRead bytes) s = .next
        { s with host := { s.host with
          cause := 0, causeRead := if bytes.getLsbD 0 = true then s.host.cause.setWidth 32 else 0 } } ∧
      exec (.causeEnableWrite bytes value) s = .next
        { s with host := { s.host with
          causeEnable := if bytes.getLsbD 0 = true then value.extractLsb' 0 7 else s.host.causeEnable } } ∧
      (s.interrupt = true ↔ ∃ k, s.host.cause.getLsbD k = true ∧ s.host.causeEnable.getLsbD k = true)) ∧
  ∀ (s : State) (high : Bool) (bytes : BitVec 4) (value : Word32),
    (s.host.device ≠ .disabled →
      exec (.configAddressWrite high bytes value) s = .next { s with host := { s.host with refused := true } }) ∧
    (s.host.device = .disabled → ∃ t, exec (.configAddressWrite high bytes value) s = .next t ∧
      t = { s with host := { s.host with configLo := t.host.configLo, configHi := t.host.configHi } } ∧
      (∀ k < 32, t.host.configHi.getLsbD k =
        if high = true ∧ bytes.getLsbD (k / 8) = true then value.getLsbD k else s.host.configHi.getLsbD k) ∧
      (high = true → t.host.configLo = s.host.configLo) ∧
      (high = false → ∀ k < 32, t.host.configLo.getLsbD k =
        (decide (12 ≤ k) && if bytes.getLsbD (k / 8) = true then value.getLsbD k else s.host.configLo.getLsbD k))) ∧
    ∀ r : PassiveRegister, exec (.registerWrite r bytes value) s = .next s

/-! ## The lanes -/

/-- R59, R53: LANE_RESUME takes a HALTED lane to IDLE with its cursor, missed-strobe count and cadence timer kept, no halt reason, and its
poll timer started if it is FREE with a poll interval; a lane that is not HALTED is not changed, and the refused flag is set. -/
def Obligations.LaneResumeEntersIdle : Prop :=
  ∀ (s : State) (a : BitVec 16) (n : LaneId), a.toNat = n.val → s.host.device = .enabled →
    (s.lanes[n].state ≠ .halted →
      exec (.laneResume a) s = .next { s with host := { s.host with refused := true } }) ∧
    (s.lanes[n].state = .halted →
      ∃ t, exec (.laneResume a) s = .next t ∧
        t = { s with
          host := { s.host with refused := false }, lanes := setAt s.lanes n t.lanes[n], nextTag := t.nextTag } ∧
        t.lanes[n] =
          { s.lanes[n] with
            state := .idle, halt := none, pollTimer := idlePoll s s.lanes[n], port := t.lanes[n].port } ∧
        LaneWordWritten s t n 0)

/-- R42, R43, R44, R46: LANE_START is a start event for each lane of its mask that is FREE, IDLE and has no start pending; an EMPTY cursor
gives it no effect, and every other lane is as it was. A STROBE command and an edge on STB are strobes to their sites, and reach no
other lane. -/
def Obligations.StartEventsAreTaken : Prop :=
  ∀ s : State, s.host.device = .enabled →
    (∀ mask : BitVec 16, ∃ t, exec (.laneStart mask) s = .next t ∧
      t = { s with host := { s.host with refused := false }, lanes := t.lanes, nextTag := t.nextTag } ∧
      ∀ n : LaneId,
        (mask.getLsbD n.val = true ∧ s.lanes[n].desc.mode = .free ∧ s.lanes[n].state = .idle ∧
            s.lanes[n].pendingStart = false ∧ s.lanes[n].cursor ≠ .empty →
          StartTaken s t n s.lanes[n]) ∧
        (¬(mask.getLsbD n.val = true ∧ s.lanes[n].desc.mode = .free ∧ s.lanes[n].state = .idle ∧
            s.lanes[n].pendingStart = false ∧ s.lanes[n].cursor ≠ .empty) →
          t.lanes[n] = s.lanes[n])) ∧
    (∀ mask : BitVec 16, ∃ t, exec (.strobe mask) s = .next t ∧
      t = { s with host := { s.host with refused := false }, lanes := t.lanes, nextTag := t.nextTag } ∧
      (∀ n : SiteId, (mask.getLsbD n.val = true → StrobeTaken s t n) ∧
        (mask.getLsbD n.val = false → t.lanes[siteLane n] = s.lanes[siteLane n])) ∧
      t.lanes[serviceLane] = s.lanes[serviceLane]) ∧
    ∀ n : SiteId, ∃ t, exec (.stbEdge n) s = .next t ∧ ChangesLane s t (siteLane n) ∧ StrobeTaken s t n

/-- R57, R49, R73, R113, R30, R31: LANE_SKIP on a lane that is IDLE, HALTED or reading in FETCHING has no effect; while the writes of an
order start are in flight it waits for them; in OFFSET it writes the held record ABORTED, the result first, with both timestamps the time of
the SKIP; on a RUNNING lane whose order has reported its end it has no effect. It aborts the running order of a site lane that has no frame
in flight: its claim leaves the waiting list, the lane writes the result with ABORTED and the no-index value, RDY drops, and its paths are
judged (R31 in every role, log 53), or return to their prior states where it has not passed its checks. One
that has a frame on the link takes the ending, if it has none yet, and awaits the frame: its due waves are withdrawn, its hot hold and
its timers end, and nothing else changes (R96, R106). And the running service order takes the abort. -/
def Obligations.LaneSkipActsByTheLaneState : Prop :=
  (∀ (s : State) (a : BitVec 16) (n : LaneId), a.toNat = n.val → s.host.device = .enabled → s.Quiet →
    ((s.lanes[n].state = .idle ∨ s.lanes[n].state = .halted ∨ s.lanes[n].state = .running ∧ s.lanes[n].access.isSome = true ∨
        s.lanes[n].state = .fetching ∧ ∀ x, s.lanes[n].access = some x → x.op ≠ .startResult ∧ x.op ≠ .taken) →
      exec (.laneSkip a) s = .next { s with host := { s.host with refused := false } }) ∧
    ((s.lanes[n].state = .fetching ∨ s.lanes[n].state = .offset) →
      (∃ x, s.lanes[n].access = some x ∧ (x.op = .startResult ∨ x.op = .taken)) → s.lanes[n].deferred = .none →
      exec (.laneSkip a) s = .next
        { s with
          host := { s.host with refused := false }, lanes := setAt s.lanes n { s.lanes[n] with deferred := .skip } }) ∧
    (s.lanes[n].state = .offset → s.lanes[n].access = none →
      exec (.laneSkip a) s = .next
        { s with
          host := { s.host with refused := false }
          rdy := rdyDropped s n
          lanes := setAt s.lanes n
            { s.lanes[n] with
              final := .aborted, offsetTimer := none
              access := some (LaneAccess.mk .endResult (MemAccess.mk s.nextTag s.now (MemReq.write (s.lanes[n].record + 64)
                (Result.octets ⟨18, 0, 0xFFFF, 0, 0, s.now, s.now, 0, 0, 0, 0, 0, 0, 0, 0, []⟩)))) }
          nextTag := s.nextTag + 1 })) ∧
  (∀ (s : State) (a : BitVec 16) (n : SiteId), a.toNat = n.val → s.host.device = .enabled →
    s.lanes[siteLane n].state = .running → s.lanes[siteLane n].access = none → Going s n →
    (s.contexts[n].scanPhase = .none ∨ s.contexts[n].scanPhase = .claim) →
    ∃ t, exec (.laneSkip a) s = .next t ∧ NotWaiting t n ∧
      OrderReported s t n .aborted { s.contexts[n].acc with failing := none } ∧ t.rdy[n] = false ∧
      t.lanes[siteLane n].state = .running ∧ t.image = s.image ∧ t.health = s.health ∧ t.host.refused = false ∧
      (s.Quiet → (∀ e ∈ s.arbiter.waiting, e.lane = n) → s.contexts[n].unjudged = false →
        (s.contexts[n].passed = true → PathsJudged s t n) ∧ (s.contexts[n].passed = false → PathsReturned s t n))) ∧
  (∀ (s : State) (a : BitVec 16) (n : SiteId), a.toNat = n.val → s.host.device = .enabled → s.Quiet →
    s.lanes[siteLane n].state = .running → s.lanes[siteLane n].access = none → FrameAwaited s n →
    exec (.laneSkip a) s = .next
      { s with
        host := { s.host with refused := false }
        contexts := setAt s.contexts n (abortAwaited s.contexts[n] false) }) ∧
  ∀ (s : State) (a : BitVec 16), a.toNat = 8 → s.host.device = .enabled → s.Quiet → s.lanes[serviceLane].state = .running →
    s.lanes[serviceLane].access = none →
    ∃ t, exec (.laneSkip a) s = .next t ∧ ServiceAborted s t ∧
      t = { s with
        host := { s.host with refused := false }, service := t.service
        lanes := setAt s.lanes serviceLane t.lanes[serviceLane], nextTag := t.nextTag }

/-- R58, R57, R113: LANE_RESET of a lane that is IDLE or HALTED, or FETCHING with no access in flight, clears its timers and its pending
start, and reads the head address field of its descriptor in FETCHING; with an access in flight it waits for it, in place of any
command that waited (the model's choice, log 10). In OFFSET it has the held record written ABORTED; the order of a RUNNING site lane
with no frame in flight and no step of a scan ends ABORTED, one with a frame on the link takes the ending and awaits the frame, its due
waves withdrawn (R96, R106), and the running service order takes the abort: the reset waits for that. -/
def Obligations.LaneResetReadsTheHead : Prop :=
  ∀ (s : State) (a : BitVec 16) (n : LaneId), a.toNat = n.val → s.host.device = .enabled → s.Quiet →
    ((s.lanes[n].state = .idle ∨ s.lanes[n].state = .halted ∨ s.lanes[n].state = .fetching ∧ s.lanes[n].access = none) →
      ∃ t, exec (.laneReset a) s = .next t ∧
        t = { s with
          host := { s.host with refused := false }, lanes := setAt s.lanes n t.lanes[n], nextTag := t.nextTag } ∧
        t.lanes[n] =
          { s.lanes[n] with
            state := .fetching, halt := none, pendingStart := false, offsetTimer := none, cadenceTimer := none
            pollTimer := none, held := none, deferred := .none, memoryOwed := false
            access := t.lanes[n].access, port := t.lanes[n].port } ∧
        LaneIssued s t n .headRead
          (.read (s.host.configHi ++ s.host.configLo + BitVec.ofNat 64 (0x40 + 32 * n.val)) 8) ∧
        (s.lanes[n].state ≠ .fetching → LaneWordWritten s t n 0)) ∧
    ((s.lanes[n].state = .fetching ∨ s.lanes[n].state = .offset ∨ s.lanes[n].state = .running) →
      s.lanes[n].access.isSome = true →
      exec (.laneReset a) s = .next
        { s with
          host := { s.host with refused := false }
          lanes := setAt s.lanes n { s.lanes[n] with deferred := .reset } }) ∧
    (s.lanes[n].state = .offset → s.lanes[n].access = none →
      ∃ t, exec (.laneReset a) s = .next t ∧ OffsetAborted s t n ∧ t.lanes[n].deferred = .reset ∧
        t = { s with
          host := { s.host with refused := false }, rdy := rdyDropped s n, lanes := setAt s.lanes n t.lanes[n]
          nextTag := t.nextTag }) ∧
    (∀ m : SiteId, m.val = n.val → s.lanes[n].state = .running → s.lanes[n].access = none → Going s m →
      (s.contexts[m].scanPhase = .none ∨ s.contexts[m].scanPhase = .claim) →
      ∃ t, exec (.laneReset a) s = .next t ∧ NotWaiting t m ∧
        OrderReported s t m .aborted { s.contexts[m].acc with failing := none } ∧ t.rdy[m] = false ∧
        t.lanes[n].state = .running ∧ t.lanes[n].deferred = .reset ∧ t.image = s.image ∧ t.health = s.health) ∧
    (∀ m : SiteId, m.val = n.val → s.lanes[n].state = .running → s.lanes[n].access = none → FrameAwaited s m →
      exec (.laneReset a) s = .next
        { s with
          host := { s.host with refused := false }
          contexts := setAt s.contexts m (abortAwaited s.contexts[m] false)
          lanes := setAt s.lanes n { s.lanes[n] with deferred := .reset } }) ∧
    (n = serviceLane → s.lanes[n].state = .running → s.lanes[n].access = none →
      ∃ t, exec (.laneReset a) s = .next t ∧ ServiceAborted s t ∧ t.lanes[n].deferred = .reset ∧
        t = { s with
          host := { s.host with refused := false }, service := t.service, lanes := setAt s.lanes n t.lanes[n]
          nextTag := t.nextTag })

/-- R44, R45, R47, R48, R49: the poll timer of an IDLE lane restarts at its expiry and is a start event when no start is pending and the
device is ENABLED (the model's reading of R171, log 26); the cadence timer stops, and with a start pending in IDLE its expiry is one
too; and at the expiry of its offset timer a lane in OFFSET starts the order of its held record. Before its limit a timer has no
effect. -/
def Obligations.LaneTimersExpire : Prop :=
  ∀ (s : State) (n : LaneId) (start : Time),
    (s.lanes[n].pollTimer = some start → s.lanes[n].state = .idle →
      ((s.now - start).toNat < s.lanes[n].desc.pollInterval.toNat → exec (.pollTimerExpiry n) s = .next s) ∧
      (s.lanes[n].desc.pollInterval.toNat ≤ (s.now - start).toNat →
        ∃ t, exec (.pollTimerExpiry n) s = .next t ∧ ChangesLane s t n ∧
          (s.lanes[n].pendingStart = true ∨ s.lanes[n].cursor = .empty ∨ s.host.device ≠ .enabled →
            t.lanes[n] = { s.lanes[n] with pollTimer := some s.now }) ∧
          (s.lanes[n].pendingStart = false → s.lanes[n].cursor ≠ .empty → s.host.device = .enabled →
            StartTaken s t n s.lanes[n]))) ∧
    (s.lanes[n].cadenceTimer = some start →
      ((s.now - start).toNat < s.lanes[n].desc.cadence.toNat → exec (.cadenceTimerExpiry n) s = .next s) ∧
      (s.lanes[n].desc.cadence.toNat ≤ (s.now - start).toNat →
        ∃ t, exec (.cadenceTimerExpiry n) s = .next t ∧ ChangesLane s t n ∧
          (s.lanes[n].pendingStart = true → s.lanes[n].state = .idle → s.lanes[n].cursor ≠ .empty →
            StartTaken s t n { s.lanes[n] with cadenceTimer := none, pendingStart := false }) ∧
          (s.lanes[n].pendingStart = false ∨ s.lanes[n].state ≠ .idle ∨ s.lanes[n].cursor = .empty →
            t.lanes[n] = { s.lanes[n] with cadenceTimer := none, pendingStart := false }))) ∧
    ∀ m : SiteId, n = siteLane m → s.lanes[n].offsetTimer = some start → s.lanes[n].state = .offset → s.lanes[n].access = none →
      ((s.now - start).toNat < s.lanes[n].desc.offsetDelay.toNat → exec (.offsetTimerExpiry m) s = .next s) ∧
      (s.lanes[n].desc.offsetDelay.toNat ≤ (s.now - start).toNat →
        ∃ t, exec (.offsetTimerExpiry m) s = .next t ∧ OrderStarted s t n s.lanes[n])

/-- R43, R44, R47, R55: what a lane does with the record it has read: a read error halts it with MEMORY_READ, a record that is not armed
returns it to IDLE, and an armed one starts at once, waits in OFFSET, or is deferred behind the cadence. -/
def Obligations.RecordReadDecidesTheStart : Prop :=
  ∀ (s : State) (n : LaneId) (m : MemAccess), s.Quiet → s.lanes[n].access = some { op := .recordRead, access := m } →
    s.lanes[n].deferred = .none →
    (∃ t, exec (.recordReadDone n m.tag none) s = .next t ∧
      LaneHalted s t n .memoryRead (causeHalt ||| causeMemory) s.lanes[n]) ∧
    (∀ r : Vector Byte 64, r[0] ≠ 1 → ∃ t, exec (.recordReadDone n m.tag (some r)) s = .next t ∧
      ReturnsToIdle s t n { s.lanes[n] with offsetTimer := none }) ∧
    ∀ r : Vector Byte 64, r[0] = 1 → ∃ t, exec (.recordReadDone n m.tag (some r)) s = .next t ∧
      let l := { s.lanes[n] with access := none, held := some { addr := s.lanes[n].cursor.addr, bytes := r.toList } }
      (l.desc.mode = .free → l.cadenceTimer = none → OrderStarted s t n l) ∧
      (l.desc.mode = .free → l.cadenceTimer ≠ none → ReturnsToIdle s t n { l with held := none, pendingStart := true }) ∧
      (l.desc.mode = .strobed → (∀ start, l.offsetTimer = some start → l.desc.offsetDelay.toNat ≤ (s.now - start).toNat) →
        OrderStarted s t n l) ∧
      (∀ start, l.desc.mode = .strobed → l.offsetTimer = some start → (s.now - start).toNat < l.desc.offsetDelay.toNat →
        t.lanes[n] = { l with state := .offset, halt := none, pollTimer := none, port := t.lanes[n].port } ∧
          (s.lanes[n].state ≠ .offset → LaneWordWritten s t n 0) ∧ ChangesLane s t n)

/-- R43, R52, R55, R58: what a lane does with a link: an error halts it with MEMORY_READ and a misaligned link with BAD_LINK, the cursor kept;
a link of 0 returns it to IDLE; an aligned one becomes its cursor, and the record is read at once, but by a STROBED lane after an
order. The head address that LANE_RESET reads sets the cursor, and the lane enters IDLE with its missed-strobe count 0; a misaligned
head halts it with BAD_LINK and a read error with MEMORY_READ, both with the cursor EMPTY. The head field of the descriptor copy keeps
its ENABLE value (the model's choice, log 50). -/
def Obligations.LinkReadsMoveTheCursor : Prop :=
  (∀ (s : State) (n : LaneId) (op : LaneOp) (m : MemAccess), s.Quiet → (op = .linkRead ∨ op = .endLinkRead) →
    s.lanes[n].access = some { op := op, access := m } → s.lanes[n].deferred = .none →
    (∃ t, exec (.linkReadDone n m.tag none) s = .next t ∧
      LaneHalted s t n .memoryRead (causeHalt ||| causeMemory) s.lanes[n]) ∧
    ∀ r : Vector Byte 8, ∃ t, exec (.linkReadDone n m.tag (some r)) s = .next t ∧
      let link := le64 r.toList 0
      (link = 0 → ReturnsToIdle s t n { s.lanes[n] with offsetTimer := none }) ∧
      (link.toNat % 128 ≠ 0 → LaneHalted s t n .badLink causeHalt s.lanes[n]) ∧
      (link ≠ 0 → link.toNat % 128 = 0 → op = .endLinkRead → s.lanes[n].desc.mode = .strobed →
        ReturnsToIdle s t n { s.lanes[n] with cursor := .next link }) ∧
      (link ≠ 0 → link.toNat % 128 = 0 → (op = .linkRead ∨ s.lanes[n].desc.mode = .free) →
        t.lanes[n] = { s.lanes[n] with cursor := .next link, access := t.lanes[n].access } ∧
          LaneIssued s t n .recordRead (.read link 64) ∧ ChangesLane s t n)) ∧
  ∀ (s : State) (n : LaneId) (m : MemAccess), s.Quiet → s.lanes[n].access = some { op := .headRead, access := m } →
    s.lanes[n].deferred = .none →
    (∃ t, exec (.headReadDone n m.tag none) s = .next t ∧
      LaneHalted s t n .memoryRead (causeHalt ||| causeMemory) { s.lanes[n] with cursor := .empty }) ∧
    ∀ r : Vector Byte 8, ∃ t, exec (.headReadDone n m.tag (some r)) s = .next t ∧
      let head := le64 r.toList 0
      (head.toNat % 128 ≠ 0 → LaneHalted s t n .badLink causeHalt { s.lanes[n] with cursor := .empty }) ∧
      (head = 0 → ReturnsToIdle s t n { s.lanes[n] with cursor := .empty, missed := 0 }) ∧
      (head ≠ 0 → head.toNat % 128 = 0 → ReturnsToIdle s t n { s.lanes[n] with cursor := .next head, missed := 0 })

/-- R58, R60: a read in flight when LANE_RESET, PARK_ALL or DISABLE reached its lane is discarded, an error of it included, and its cursor
stays as it stood: the lane then reads its head, or halts with PARKED. An error sets the MEMORY cause (R175). -/
def Obligations.WaitingCommandsDiscardTheRead : Prop :=
  ∀ (s : State) (n : LaneId) (m : MemAccess) (i : Instr) (ok : Bool),
    (s.lanes[n].access = some { op := .recordRead, access := m } ∧ (∃ r, i = .recordReadDone n m.tag r ∧ ok = r.isSome) ∨
      s.lanes[n].access = some { op := .endLinkRead, access := m } ∧ (∃ r, i = .linkReadDone n m.tag r ∧ ok = r.isSome) ∨
      s.lanes[n].access = some { op := .linkRead, access := m } ∧ (∃ r, i = .linkReadDone n m.tag r ∧ ok = r.isSome) ∨
      s.lanes[n].access = some { op := .headRead, access := m } ∧ ∃ r, i = .headReadDone n m.tag r ∧ ok = r.isSome) →
    (s.lanes[n].deferred = .reset ∨ s.lanes[n].deferred = .park) →
    ∃ t, exec i s = .next t ∧ t.lanes[n].cursor = s.lanes[n].cursor ∧ t.lanes[n].missed = s.lanes[n].missed ∧
      (s.lanes[n].deferred = .reset → t.lanes[n].state = .fetching ∧ t.lanes[n].deferred = .none) ∧
      (s.lanes[n].deferred = .reset → s.Quiet → LaneIssued s t n .headRead
        (.read (s.host.configHi ++ s.host.configLo + BitVec.ofNat 64 (0x40 + 32 * n.val)) 8)) ∧
      (s.lanes[n].deferred = .park → t.lanes[n].state = .halted ∧ t.lanes[n].halt = some .parked) ∧
      (s.arbiter.walkOwed = false → s.host.passage = .idle ∨ s.host.passage = .aborting →
        t.host.cause = if ok = true then s.host.cause else s.host.cause ||| causeMemory)

/-! ## The records -/

/-- R40, R49 step 5, R56, R23, R26, R150, R151, R152: once TAKEN has been written the lane is RUNNING. An order of a kind that its lane does
not accept ends FAILED with BAD_KIND and the no-index value, and RDY drops; one that a command has waited for ends ABORTED with nothing done
(the model's reading of R49, log 13). The service lane takes its order: DEFINE reads its first entry, WEAR_SAVE and WEAR_LOAD issue their
first transfer, WEAR_CLEAR stands ready for its clear, and UNDEFINE goes through its range up to the first busy id, all in this event (the
model's choice, log 31: R57 has an abort fall between two ids); bad operands end it with BAD_OPERAND. An error of the write halts the lane with MEMORY_WRITE before that. -/
def Obligations.TakenEntersRunning : Prop :=
  (∀ (s : State) (n : LaneId) (m : MemAccess), s.arbiter.walkOwed = false →
    s.host.passage = .idle ∨ s.host.passage = .aborting →
    s.lanes[n].access = some { op := .taken, access := m } →
    (∃ t, exec (.takenWriteDone n m.tag true) s = .next t ∧ t.lanes[n].state = .running ∧
      ∀ h, s.lanes[n].held = some h →
        let ends := fun code failing =>
          t.lanes[n].final = code.final ∧ t.lanes[n].cursor = s.lanes[n].cursor ∧ t.rdy = rdyDropped s n ∧
          LaneIssued s t n .endResult
            (.write (h.addr + 64)
              (endResult code (accFailing failing) 0 0 s.lanes[n].snapshot s.lanes[n].started s.now).octets) ∧
          t = { s with lanes := setAt s.lanes n t.lanes[n], rdy := t.rdy, nextTag := t.nextTag }
        let kind := byteAt h.bytes 1
        (¬ KindAccepted n kind → ends .badKind none) ∧
        (KindAccepted n kind → s.lanes[n].deferred ≠ .none →
          ends .aborted
            (if kind = 5 ∨ kind = 7 ∨ kind = 8 then some 0 else if kind = 6 then some (le16 h.bytes 16).toNat else none))) ∧
    (s.lanes[n].deferred = .none ∨ s.lanes[n].deferred = .skip →
      ∃ t, exec (.takenWriteDone n m.tag false) s = .next t ∧
        LaneHalted s t n .memoryWrite (causeHalt ||| causeMemory) s.lanes[n])) ∧
  ∀ (s : State) (m : MemAccess) (h : HeldRecord), s.Quiet →
    s.lanes[serviceLane].access = some { op := .taken, access := m } → s.lanes[serviceLane].held = some h →
    s.lanes[serviceLane].deferred = .none →
    ∃ t, exec (.takenWriteDone serviceLane m.tag true) s = .next t ∧
      let kind := byteAt h.bytes 1
      let list := le64 h.bytes 16
      let entries := (le16 h.bytes 24).toNat
      let first := (le16 h.bytes 16).toNat
      let ids := (le16 h.bytes 18).toNat
      let relay := (le32 h.bytes 16).toNat
      let relays := (le32 h.bytes 20).toNat
      let badIds := ids = 0 ∨ 256 < ids ∨ 256 < first + ids
      let busy (p : PathId) := s.paths[p].state = .pending ∨ s.paths[p].state = .active ∨ s.paths[p].state = .broken
      let taken := fun order => t.service.order = order ∧ t.lanes[serviceLane].access = none
      (KindAccepted serviceLane kind → t = { s with
        service := t.service, paths := t.paths, lanes := setAt s.lanes serviceLane t.lanes[serviceLane], nextTag := t.nextTag }) ∧
      (kind ≠ 6 → KindAccepted serviceLane kind → t.paths = s.paths) ∧
      (kind = 5 → entries = 0 ∨ 256 < entries → ServiceReported s t .badOperand none) ∧
      (kind = 5 → 1 ≤ entries → entries ≤ 256 →
        taken (.define list entries 0) ∧ Issued s t t.service.access (.read list 40)) ∧
      (kind = 6 → badIds → ServiceReported s t .badOperand none ∧ t.paths = s.paths) ∧
      (kind = 6 → ¬ badIds →
        (∀ p : PathId, t.paths[p] =
          if first ≤ p.val ∧ p.val < first + ids ∧ s.paths[p].state = .idle ∧ ∀ q : PathId, first ≤ q.val → q < p → ¬ busy q
          then PathEntry.reset
          else s.paths[p]) ∧
        (∀ p : PathId, first ≤ p.val → p.val < first + ids → busy p → (∀ q : PathId, first ≤ q.val → q < p → ¬ busy q) →
          ServiceReported s t .pathBusy (some p.val)) ∧
        ((∀ p : PathId, first ≤ p.val → p.val < first + ids → ¬ busy p) → ServiceReported s t .ok none)) ∧
      (kind = 7 → taken (.wearSave 0) ∧ Issued s t t.service.access
        (.write s.health.wearArea (((List.range 16).map fun i => octets 4 (s.wearOf (Fin.ofNat 8320 i))).flatten))) ∧
      (kind = 8 → taken (.wearLoad 0) ∧ Issued s t t.service.access (.read s.health.wearArea 64)) ∧
      (kind = 9 → relays = 0 ∨ 8320 < relay + relays → ServiceReported s t .badOperand none) ∧
      (kind = 9 → 1 ≤ relays → relay + relays ≤ 8320 →
        taken (.wearClear relay relays) ∧ t.service.access = s.service.access)

/-- R49 step 4, R51, R52, R56, R175: once the result of an order start has been written, TAKEN is written to the record's state, and once the
result of an order's end has been written, its final state; an error of either write halts the lane with MEMORY_WRITE, the cursor
kept. Once the final state has been written, NOTIFY is set if the record asks for it and MEMORY if a service order's error waits for it;
then a FAILED record without CONTINUE halts the lane with ORDER_FAILED, and any other has its link read, the cursor AT_TAIL on the
record both times. With a LANE_RESET waiting, an error of an order's end halts the lane with MEMORY_WRITE, its status word and causes
owed, and the reset then reads the head (the model's reading of R56 with R58, log 12); an error of an abort in OFFSET sets MEMORY and
the reset goes on; and after the final state the reset reads the head at once (log 51). With PARK_ALL or DISABLE waiting the lane halts with
PARKED (R60, R172): after the final state with its cursor AT_TAIL on the record, and by an error of any of these writes with MEMORY set
and its cursor kept, without a HALT cause for a write of the start (the model's reading of R49 with R172, log 30), but AT_TAIL for an error of
the end of an ABORTED record (the model's reading, log 11). -/
def Obligations.StateWritesEndTheRecord : Prop :=
  (∀ (s : State) (n : LaneId) (op : LaneOp) (m : MemAccess), s.Quiet → s.lanes[n].access = some { op := op, access := m } →
    (op = .startResult →
      (∃ t, exec (.startResultWriteDone n m.tag true) s = .next t ∧ ChangesLane s t n ∧
        t.lanes[n] = { s.lanes[n] with access := t.lanes[n].access } ∧
        LaneIssued s t n .taken (.write s.lanes[n].record [2])) ∧
      (s.lanes[n].deferred = .none ∨ s.lanes[n].deferred = .skip →
        ∃ t, exec (.startResultWriteDone n m.tag false) s = .next t ∧
          LaneHalted s t n .memoryWrite (causeHalt ||| causeMemory) s.lanes[n])) ∧
    (op = .endResult →
      (∃ t, exec (.endResultWriteDone n m.tag true) s = .next t ∧ ChangesLane s t n ∧
        t.lanes[n] = { s.lanes[n] with access := t.lanes[n].access } ∧
        LaneIssued s t n .finalState
          (.write s.lanes[n].record [match s.lanes[n].final with | .done => 3 | .failed => 4 | .aborted => 5])) ∧
      (s.lanes[n].deferred = .none ∨ s.lanes[n].deferred = .skip →
        ∃ t, exec (.endResultWriteDone n m.tag false) s = .next t ∧
          LaneHalted s t n .memoryWrite (causeHalt ||| causeMemory) s.lanes[n])) ∧
    ∀ i, (op = .endResult ∧ i = .endResultWriteDone n m.tag false ∨ op = .finalState ∧ i = .stateWriteDone n m.tag false) →
      s.lanes[n].deferred = .reset →
      ∃ t, exec i s = .next t ∧ t.lanes[n].state = .fetching ∧ t.lanes[n].deferred = .none ∧ t.lanes[n].held = none ∧
        t.lanes[n].cursor = s.lanes[n].cursor ∧
        LaneIssued s t n .headRead (.read (s.host.configHi ++ s.host.configLo + BitVec.ofNat 64 (0x40 + 32 * n.val)) 8) ∧
        (s.lanes[n].state = .offset → t.host.cause = s.host.cause ||| causeMemory) ∧
        (s.lanes[n].state = .running → t.host.cause = s.host.cause ∧ t.rdy = rdyDropped s n ∧
          (s.lanes[n].port.access = none → s.lanes[n].port.owed = [] →
            Issued s t t.lanes[n].port.access
              (.write (s.laneStatusAddr n)
                ({ s.lanes[n] with state := .halted, halt := some .memoryWrite } : Lane).statusWord) ∧
              t.lanes[n].port.causes = causeHalt ||| causeMemory ∧ t.lanes[n].port.owed = [0]))) ∧
  (∀ (s : State) (n : LaneId) (op : LaneOp) (m : MemAccess), s.arbiter.walkOwed = false →
    s.host.passage = .idle ∨ s.host.passage = .aborting → s.lanes[n].access = some { op := op, access := m } →
    s.lanes[n].deferred = .park →
    (∀ i, (op = .startResult ∧ i = .startResultWriteDone n m.tag false ∨ op = .taken ∧ i = .takenWriteDone n m.tag false) →
      ∃ t, exec i s = .next t ∧ HaltedParked s t n s.lanes[n].cursor (s.host.cause ||| causeMemory)) ∧
    (∀ i, (op = .endResult ∧ i = .endResultWriteDone n m.tag false ∨ op = .finalState ∧ i = .stateWriteDone n m.tag false) →
      ∃ t, exec i s = .next t ∧
        HaltedParked s t n (if s.lanes[n].final = .aborted then .atTail s.lanes[n].record else s.lanes[n].cursor)
          (s.host.cause ||| causeMemory)) ∧
    (op = .finalState → ∀ h, s.lanes[n].held = some h →
      ∃ t, exec (.stateWriteDone n m.tag true) s = .next t ∧
        HaltedParked s t n (.atTail h.addr)
          (s.host.cause ||| (if (le16 h.bytes 2).getLsbD 0 = true then causeNotify else 0) |||
            (if s.lanes[n].memoryOwed = true then causeMemory else 0)))) ∧
  ∀ (s : State) (n : LaneId) (m : MemAccess) (h : HeldRecord), s.Quiet →
    s.lanes[n].access = some { op := .finalState, access := m } → s.lanes[n].held = some h →
    let causes := s.host.cause ||| (if (le16 h.bytes 2).getLsbD 0 = true then causeNotify else 0) |||
      (if s.lanes[n].memoryOwed = true then causeMemory else 0)
    (s.lanes[n].deferred = .none ∨ s.lanes[n].deferred = .skip →
      (∃ t, exec (.stateWriteDone n m.tag true) s = .next t ∧
        let u := { s with host := { s.host with cause := causes } }
        let l := { s.lanes[n] with cursor := .atTail h.addr, held := none, memoryOwed := false, deferred := .none }
        (s.lanes[n].final = .failed → (le16 h.bytes 2).getLsbD 1 = false → LaneHalted u t n .orderFailed causeHalt l) ∧
        (s.lanes[n].final ≠ .failed ∨ (le16 h.bytes 2).getLsbD 1 = true →
          t.lanes[n] =
            { l with
              state := .fetching, halt := none, pollTimer := none, access := t.lanes[n].access, port := t.lanes[n].port } ∧
          LaneIssued u t n .endLinkRead (.read (h.addr + 8) 8) ∧ ChangesLane u t n ∧
          (s.lanes[n].state ≠ .fetching → LaneWordWritten u t n 0))) ∧
      ∃ t, exec (.stateWriteDone n m.tag false) s = .next t ∧
        LaneHalted s t n .memoryWrite (causeHalt ||| causeMemory) s.lanes[n]) ∧
    (s.lanes[n].deferred = .reset →
      ∃ t, exec (.stateWriteDone n m.tag true) s = .next t ∧ t.host.cause = causes ∧ t.lanes[n].state = .fetching ∧
        t.lanes[n].deferred = .none ∧ t.lanes[n].cursor = s.lanes[n].cursor ∧
        LaneIssued s t n .headRead (.read (s.host.configHi ++ s.host.configLo + BitVec.ofNat 64 (0x40 + 32 * n.val)) 8))

/-! ## The status words -/

/-- R53, R160, R171 step 6, R172 step 4, R173 step 6: once a write of a status word has completed, the causes that follow it are set, with
MEMORY when it failed, and the next write of the word that is owed is issued with the fields as they then stand, not those of its change
(the model's reading, log 27). The last one of a passage ends it: ENABLE in ENABLED and DISABLE in DISABLED, both with the ENABLE cause, and PARK_ALL in ENABLED with PARKED. -/
def Obligations.StatusWritesSetTheirCauses : Prop :=
  (∀ (s : State) (ok : Bool) (m : MemAccess), s.host.passage = .idle →
      (∀ n : LaneId, s.lanes[n].port.access = some m →
        ∃ t, exec (.laneStatusWriteDone n m.tag ok) s = .next t ∧
          t.host = { s.host with cause := s.host.cause ||| s.lanes[n].port.causes ||| (if ok = true then 0 else causeMemory) } ∧
          t = { s with host := t.host, lanes := setAt s.lanes n t.lanes[n], nextTag := t.nextTag } ∧
          t.lanes[n] = { s.lanes[n] with port := t.lanes[n].port } ∧
          (s.lanes[n].port.owed = [] → t.lanes[n].port = ⟨none, 0, []⟩) ∧
          ∀ c rest, s.lanes[n].port.owed = c :: rest →
            Issued s t t.lanes[n].port.access (.write (s.laneStatusAddr n) s.lanes[n].statusWord) ∧
              t.lanes[n].port.causes = c ∧ t.lanes[n].port.owed = rest) ∧
      ∀ b : BayId, s.link.bays[b].port.access = some m →
        ∃ t, exec (.bayStatusWriteDone b m.tag ok) s = .next t ∧
          t.host = { s.host with cause := s.host.cause ||| s.link.bays[b].port.causes ||| (if ok = true then 0 else causeMemory) } ∧
          t = { s with
            host := t.host, link := { s.link with bays := setAt s.link.bays b t.link.bays[b] }, nextTag := t.nextTag } ∧
          t.link.bays[b] = { s.link.bays[b] with port := t.link.bays[b].port } ∧
          (s.link.bays[b].port.owed = [] → t.link.bays[b].port = ⟨none, 0, []⟩) ∧
          ∀ c rest, s.link.bays[b].port.owed = c :: rest →
            Issued s t t.link.bays[b].port.access (.write (s.bayStatusAddr b) (s.link.bays[b].statusWord s.link.rate)) ∧
              t.link.bays[b].port.causes = c ∧ t.link.bays[b].port.owed = rest) ∧
  ∀ (s : State) (n : LaneId) (m : MemAccess) (d : DeviceState) (cause : BitVec 7),
    (s.host.passage = .enableStatus ∧ d = .enabled ∧ cause = causeEnabled ∨
      s.host.passage = .disableStatus ∧ d = .disabled ∧ cause = causeEnabled ∨
      s.host.passage = .parkStatus ∧ d = .enabled ∧ cause = causeParked) →
    s.lanes[n].port.access = some m → s.lanes[n].port.owed = [] →
    (∀ k : LaneId, k ≠ n → s.lanes[k].port.access = none ∧ s.lanes[k].port.owed = []) →
    (∀ b : BayId, s.link.bays[b].port.access = none ∧ s.link.bays[b].port.owed = []) →
    ∃ t, exec (.laneStatusWriteDone n m.tag true) s = .next t ∧
      t.host = { s.host with
        device := d, passage := .idle, access := none, cause := s.host.cause ||| s.lanes[n].port.causes ||| cause } ∧
      t = { s with host := t.host, lanes := setAt s.lanes n { s.lanes[n] with port := ⟨none, 0, []⟩ } }

/-- R54: an access that has had no completion for 50,000 µs is a memory error for the block that made it, as a completion in error is: the
block goes on in the same way. One that has waited less goes on waiting, and a completion of no access in flight is discarded. -/
def Obligations.TimeoutIsAMemoryError : Prop :=
  ∀ s : State,
    (∀ (m : MemAccess) (i : Instr), s.ErrorOf m i → (s.accesses.filter fun a => a.tag == m.tag) = [m] →
      ((s.now - m.issued).toNat < 50000 → exec (.memoryAccessTimeout m.tag) s = .next s) ∧
      (50000 ≤ (s.now - m.issued).toNat →
        ∃ t, exec (.memoryAccessTimeout m.tag) s = .next t ∧ exec i s = .next t)) ∧
    ∀ (i : Instr) (tag : Nat), completionTag i = some tag → (∀ a ∈ s.accesses, a.tag ≠ tag) → exec i s = .next s

/-! ## The service orders and the path table -/

/-- R24: an entry is accepted exactly when none of the ten checks refuses it. -/
def Obligations.EntryChecks : Prop :=
  ∀ (s : State) (e : DefinitionEntry),
    s.entryAccepted e = true ↔
      e.id ≤ 255 ∧ e.site ≤ 7 ∧ (e.policy = 0 ∨ e.policy = 1 ∨ e.policy = 2) ∧ 1 ≤ e.count ∧ e.count ≤ 16 ∧
        (∀ w ∈ e.words, w < 8192) ∧
        (∀ w ∈ e.words, ∃ site : SiteId, site.val = e.site ∧ s.cfg.columns[w % 512] = some site) ∧
        (∀ w ∈ e.words, ∀ owner : SiteId, s.cfg.rows[w / 512 % 16].owner = some owner → owner.val = e.site) ∧
        (∀ w ∈ e.words, s.cfg.expected.getLsbD (w % 512 / 64) = true) ∧
        e.words.Nodup ∧ (e.words.map (· / 512)).toFinset.card ≤ 4

/-- R23, R25, R57: DEFINE takes entry k when its read completes. A read error ends it FAILED with MEMORY at k, the cause after the record's
writes; an entry that fails R24 ends it with BAD_OPERAND at k, and one whose id is PENDING, ACTIVE or BROKEN with PATH_BUSY at k; any
other is stored whole and IDLE, and then the next entry is read, an abort takes effect at k + 1, or the last entry ends it OK. That an
entry's own failure and the OK of the last entry stand although an abort waits is the model's choice (log 14), and so is an address
past 2^64 - 1 (log 49). -/
def Obligations.DefineTakesItsEntries : Prop :=
  ∀ (s : State) (list : Addr) (count k : Nat) (m : MemAccess), s.service.order = .define list count k →
    s.service.access = some m →
    (∃ t, exec (.defineEntryReadDone m.tag none) s = .next t ∧ ServiceReported s t .memory (some k) ∧
      t.lanes[serviceLane].memoryOwed = true ∧ t.paths = s.paths ∧ t.host = s.host) ∧
    ∀ r : Vector Byte 40, ∃ t, exec (.defineEntryReadDone m.tag (some r)) s = .next t ∧
      let e := definitionEntry r.toList
      let p : PathId := Fin.ofNat 256 e.id
      let free := s.paths[p].state = .undefined ∨ s.paths[p].state = .idle
      t.image = s.image ∧ t.arbiter = s.arbiter ∧ t.host = s.host ∧
      (s.entryAccepted e = false → ServiceReported s t .badOperand (some k) ∧ t.paths = s.paths) ∧
      (s.entryAccepted e = true → ¬ free → ServiceReported s t .pathBusy (some k) ∧ t.paths = s.paths) ∧
      (s.entryAccepted e = true → free →
        t.paths = setAt s.paths p
          { state := .idle, site := Fin.ofNat 8 e.site, policy := (HotPolicy.ofCode e.policy).getD .allow
            extraSettle := e.extraSettle, crosspoints := e.words.map crosspointOfWord
            rowSet := ascending (e.words.map fun w => (crosspointOfWord w).1), prior := none } ∧
        (k + 1 = count → ServiceReported s t .ok none) ∧
        (k + 1 ≠ count → s.service.abort = true → ServiceReported s t .aborted (some (k + 1))) ∧
        (k + 1 ≠ count → s.service.abort = false → t.lanes = s.lanes ∧ t.service.order = .define list count (k + 1) ∧
          Issued s t t.service.access (.read (list + BitVec.ofNat 64 (40 * (k + 1))) 40)))

/-- R152: WEAR_CLEAR makes every counter of its run 0 and clears the three marks of its relays, leaves every other counter and mark as it
was, and ends OK. -/
def Obligations.WearClearZeroesItsRun : Prop :=
  ∀ (s : State) (first count : Nat), s.service.order = .wearClear first count →
    ∃ t, exec .wearClear s = .next t ∧ ServiceReported s t .ok none ∧
      t = { s with
        health := t.health, service := t.service, lanes := setAt s.lanes serviceLane t.lanes[serviceLane], nextTag := t.nextTag } ∧
      (∀ n : RelayNo, first ≤ n.val → n.val < first + count →
        t.wearOf n = 0 ∧ t.isWorn n = false ∧ t.isRetired n = false ∧ t.isSuspect n = false) ∧
      ∀ n : RelayNo, n.val < first ∨ first + count ≤ n.val →
        t.wearOf n = s.wearOf n ∧ t.isWorn n = s.isWorn n ∧ t.isRetired n = s.isRetired n ∧ t.isSuspect n = s.isSuspect n

/-- R150, R151, R145, R57: WEAR_SAVE writes transfer after transfer, each with the counters as they stand when it is issued, and changes no
counter. As WEAR_LOAD takes transfer j its 16 counters replace those in the part, with their WORN and RETIRED marks; the others stand.
An error ends either order FAILED with MEMORY at relay 16 × j; an abort ends it ABORTED at the first relay not reached, an error then
setting MEMORY at once; the last transfer ends it OK. A transfer's address past 2^64 - 1 wraps (the model's reading, log 49). -/
def Obligations.WearTransfersMoveTheCounters : Prop :=
  (∀ (s : State) (j : Nat) (m : MemAccess), s.service.order = .wearSave j → s.service.access = some m →
    (∃ t, exec (.wearSaveTransferDone m.tag true) s = .next t ∧ t.health = s.health ∧ t.host = s.host ∧
      (s.service.abort = true → ServiceReported s t .aborted (if j = 519 then none else some (16 * (j + 1)))) ∧
      (s.service.abort = false → j = 519 → ServiceReported s t .ok none) ∧
      (s.service.abort = false → j ≠ 519 → t.lanes = s.lanes ∧ t.service.order = .wearSave (j + 1) ∧
        Issued s t t.service.access
          (.write (s.health.wearArea + BitVec.ofNat 64 (64 * (j + 1)))
            (((List.range 16).map fun i => octets 4 (s.wearOf (Fin.ofNat 8320 (16 * (j + 1) + i)))).flatten)))) ∧
    ∃ t, exec (.wearSaveTransferDone m.tag false) s = .next t ∧ t.health = s.health ∧
      (s.service.abort = false → ServiceReported s t .memory (some (16 * j)) ∧
        t.lanes[serviceLane].memoryOwed = true ∧ t.host = s.host) ∧
      (s.service.abort = true → ServiceReported s t .aborted (if j = 519 then none else some (16 * (j + 1))) ∧
        t.host = { s.host with cause := s.host.cause ||| causeMemory })) ∧
  ∀ (s : State) (j : Fin 520) (m : MemAccess), s.WearSound → s.MarksSound → s.service.order = .wearLoad j.val →
    s.service.access = some m →
    (∃ t, exec (.wearLoadTransferDone m.tag none) s = .next t ∧ t.health = s.health ∧
      (s.service.abort = false → ServiceReported s t .memory (some (16 * j.val)) ∧
        t.lanes[serviceLane].memoryOwed = true ∧ t.host = s.host) ∧
      (s.service.abort = true → ServiceReported s t .aborted (some (16 * j.val)) ∧
        t.host = { s.host with cause := s.host.cause ||| causeMemory })) ∧
    ∀ r : Vector Byte 64, ∃ t, exec (.wearLoadTransferDone m.tag (some r)) s = .next t ∧
      t.host = s.host ∧ t.health.suspect = s.health.suspect ∧ t.MarksSound ∧
      (∀ i : Fin 16, ∀ n : RelayNo, n.val = 16 * j.val + i.val → t.wearOf n = (le32 r.toList (4 * i.val)).toNat) ∧
      (∀ n : RelayNo, n.val < 16 * j.val ∨ 16 * j.val + 16 ≤ n.val → t.wearOf n = s.wearOf n) ∧
      (s.service.abort = true → ServiceReported s t .aborted (if j = 519 then none else some (16 * (j.val + 1)))) ∧
      (s.service.abort = false → j = 519 → ServiceReported s t .ok none) ∧
      (s.service.abort = false → j ≠ 519 → t.lanes = s.lanes ∧ t.service.order = .wearLoad (j.val + 1) ∧
        Issued s t t.service.access (.read (s.health.wearArea + BitVec.ofNat 64 (64 * (j.val + 1))) 64))

/-! ## The passages of ENABLE, PARK_ALL and DISABLE -/

/-- R170, R9, R38, R118, R149, R155, R165, R175, Tables 12-1 to 12-4: the checks of the configuration block are made in their order, and the
first that fails gives the code. At the read of the block an error fails ENABLE with MEMORY, and a failed check with its code; with
every check passed the copies take the block's fields, the wave limits, reply extensions, hot weights and the rate ceiling clamped, and
discovery begins: BRST asserted, at the ceiling rate, every expected bay in PROBING with its relays OPEN. That the failed read sets the
MEMORY cause beside the ENABLE cause is the model's reading (log 36). -/
def Obligations.ConfigurationIsCheckedAndTaken : Prop :=
  (∀ bytes : Vector Byte 1280,
    let octet : Nat → Nat := fun a => (byteAt bytes.toList a).toNat
    let siteOrNone : Nat → Prop := fun x => x ≤ 7 ∨ x = 255
    let version := le16 bytes.toList 0 = 1
    let expected := byteAt bytes.toList 2 ≠ 0
    let types := ∀ b < 8, (byteAt bytes.toList 2).getLsbD b = true → octet (0x2B0 + 8 * b + 1) ≤ 3 ∧ octet (0x2B0 + 8 * b + 2) ≤ 3
    let rows := ∀ r < 16, siteOrNone (octet (0x230 + 4 * r)) ∧ octet (0x230 + 4 * r + 1) ≤ 3
    let map := ∀ c < 512, siteOrNone (octet (0x300 + c))
    let lanes := ∀ n < 9, octet (0x40 + 32 * n) % 128 = 0
    (¬ version → configFailure bytes.toList = some .badVersion) ∧
    (version → ¬ expected → configFailure bytes.toList = some .noBays) ∧
    (version → expected → ¬ types → configFailure bytes.toList = some .badType) ∧
    (version → expected → types → ¬ rows → configFailure bytes.toList = some .badRow) ∧
    (version → expected → types → rows → ¬ map → configFailure bytes.toList = some .badMap) ∧
    (version → expected → types → rows → map → ¬ lanes → configFailure bytes.toList = some .badLane) ∧
    (version → expected → types → rows → map → lanes → configFailure bytes.toList = none)) ∧
  ∀ (s : State) (m : MemAccess), s.host.passage = .configRead → s.host.access = some m →
    (∃ t, exec (.configBlockReadDone m.tag none) s = .next t ∧ EnableFailed s t .memory (causeMemory ||| causeEnabled)) ∧
    ∀ bytes : Vector Byte 1280, ∃ t, exec (.configBlockReadDone m.tag (some bytes)) s = .next t ∧
      (∀ code, configFailure bytes.toList = some code → EnableFailed s t code causeEnabled) ∧
      (configFailure bytes.toList = none →
        let byte : Nat → Byte := byteAt bytes.toList
        let half : Nat → BitVec 16 := le16 bytes.toList
        let word : Nat → Word32 := le32 bytes.toList
        let site : Nat → Option SiteId := fun a => if h : (byte a).toNat < 8 then some ⟨(byte a).toNat, h⟩ else none
        t.host = { s.host with passage := .discovery, access := none } ∧
        t.cfg.expected = byte 2 ∧ t.cfg.gap = half 4 ∧ t.health.wearArea = le64 bytes.toList 8 ∧
        (∃ r : Fin 3, t.link.rate = some r ∧ r.val = min (byte 3).toNat 2) ∧
        (∀ n : LaneId, t.lanes[n] = { s.lanes[n] with
          desc :=
            { head := le64 bytes.toList (0x40 + 32 * n.val)
              mode := if n ≠ serviceLane ∧ byte (0x40 + 32 * n.val + 8) = 1 then .strobed else .free
              offsetDelay := half (0x40 + 32 * n.val + 10), pollInterval := half (0x40 + 32 * n.val + 12)
              cadence := word (0x40 + 32 * n.val + 16), claimWait := word (0x40 + 32 * n.val + 20)
              hotWait := word (0x40 + 32 * n.val + 24) } }) ∧
        (∀ r : RowId, t.cfg.rows[r].owner = site (0x230 + 4 * r.val) ∧
          t.cfg.rows[r].currentClass.val = (byte (0x230 + 4 * r.val + 1)).toNat ∧
          t.cfg.rows[r].liveEnable = (byte (0x230 + 4 * r.val + 2) != 0)) ∧
        (∀ ty : TypeId,
          t.cfg.types[ty] = ⟨half (0x270 + 16 * ty.val), half (0x270 + 16 * ty.val + 2), half (0x270 + 16 * ty.val + 4)⟩ ∧
          t.health.staged[ty] = ⟨word (0x270 + 16 * ty.val + 8), word (0x270 + 16 * ty.val + 12)⟩ ∧
          t.cfg.hotWeights[ty].toNat = max 1 (byte (0x2F0 + ty.val)).toNat) ∧
        (∀ c : ColumnId, t.cfg.columns[c] = site (0x300 + c.val)) ∧
        (∀ b : BayId, t.cfg.expected.getLsbD b.val = true →
          t.cfg.bays[b].model = byte (0x2B0 + 8 * b.val) ∧
          t.cfg.bays[b].crosspointType.val = (byte (0x2B0 + 8 * b.val + 1)).toNat ∧
          t.cfg.bays[b].isolationType.val = (byte (0x2B0 + 8 * b.val + 2)).toNat ∧
          t.cfg.bays[b].waveLimit.toNat = max 1 (min 64 (byte (0x2B0 + 8 * b.val + 3)).toNat) ∧
          t.cfg.bays[b].extension.toNat = min 7 (byte (0x2B0 + 8 * b.val + 4)).toNat ∧
          t.link.bays[b].state = .probing ∧ t.link.bays[b].mismatch = false ∧ t.image.windows[b] = none ∧
          ∀ n ∈ t.image.closed, relayBay n ≠ b) ∧
        t.health.thresholds = s.health.thresholds ∧ t.health.wear = s.health.wear ∧
        t.link.brst = true ∧ t.link.discovery.stage = .pulse s.now)

/-- R149, R170, R171 steps 2 to 5: the wear load of ENABLE. A read error fails ENABLE with WEAR_AREA, every counter 0 and every mark clear.
A transfer's counters replace those in the part and the next transfer is read; after the last one the thresholds are taken and the
SUSPECT marks cleared, the path table is UNDEFINED, every row FREE, every lane IDLE with its cursor from its head, and the status
words are written. That a failed load sets the MEMORY cause beside the ENABLE cause (log 36), that the live enables are taken at
this moment (log 35), and that a transfer's address past 2^64 - 1 wraps (log 49), is the model's reading; the values of a lane's snapshot,
start time and final state are its choice (log 27). -/
def Obligations.EnableLoadsTheWear : Prop :=
  ∀ (s : State) (j : Fin 520) (m : MemAccess), s.host.passage = .wearLoad j.val → s.host.access = some m →
    (∃ t, exec (.enableWearTransferDone m.tag none) s = .next t ∧ t.host.device = .disabled ∧ t.host.failure = .wearArea ∧
      t.host.cause = s.host.cause ||| causeMemory ||| causeEnabled ∧ t.health.wear = [] ∧ t.health.worn = [] ∧
      t.health.retired = [] ∧ t.health.suspect = [] ∧ t.health.wearArea = 0 ∧ t.link.rate = none ∧ t.cfg = .reset) ∧
    (∀ r : Vector Byte 64, j ≠ 519 → s.WearSound → ∃ t, exec (.enableWearTransferDone m.tag (some r)) s = .next t ∧
      t.host.device = s.host.device ∧ t.host.passage = .wearLoad (j.val + 1) ∧
      Issued s t t.host.access (.read (s.health.wearArea + BitVec.ofNat 64 (64 * (j.val + 1))) 64) ∧
      (∀ i : Fin 16, ∀ n : RelayNo, n.val = 16 * j.val + i.val → t.wearOf n = (le32 r.toList (4 * i.val)).toNat) ∧
      (∀ n : RelayNo, n.val < 16 * j.val ∨ 16 * j.val + 16 ≤ n.val → t.wearOf n = s.wearOf n) ∧
      t.lanes = s.lanes ∧ t.link = s.link ∧ t.paths = s.paths) ∧
    ∀ r : Vector Byte 64, j = 519 → ∃ t, exec (.enableWearTransferDone m.tag (some r)) s = .next t ∧
      (s.WearSound → (∀ i : Fin 16, ∀ n : RelayNo, n.val = 8304 + i.val → t.wearOf n = (le32 r.toList (4 * i.val)).toNat) ∧
        ∀ n : RelayNo, n.val < 8304 → t.wearOf n = s.wearOf n) ∧
      t.host = { s.host with passage := .enableStatus, access := none } ∧ t.health.thresholds = s.health.staged ∧
      t.health.suspect = [] ∧ (∀ p : PathId, t.paths[p].state = .undefined) ∧
      (∀ row : RowId, t.arbiter.holders[row] = .free ∧ t.live.enable[row] = s.cfg.rows[row].liveEnable) ∧
      t.arbiter.waiting = [] ∧ t.link.pointer = 0 ∧
      (∀ n : LaneId, t.lanes[n] =
          { Lane.reset with
            state := .idle, desc := s.lanes[n].desc, pollTimer := idlePoll s s.lanes[n], port := t.lanes[n].port
            cursor := if s.lanes[n].desc.head = 0 then .empty else .next s.lanes[n].desc.head } ∧
        LaneWordWritten s t n 0) ∧
      ∀ b : BayId, BayWordWritten s t b 0

/-- R60, R113, R172, R173: PARK_ALL and DISABLE in ENABLED are accepted and reach every lane. One that is IDLE, HALTED or FETCHING with no
read in flight halts with PARKED, its cursor and its missed-strobe count kept and its timers and pending start cleared. One with an access
in flight has the park wait for it, in place of any command that waited (the model's choice, log 10). One in OFFSET writes its record
ABORTED; the order of a RUNNING site lane with no frame in flight and no step of a scan ends ABORTED without judgement and leaves the
waiting list, and RDY drops; one with a frame on the link takes the ending, or keeps the one it has, and then its judgement too
(the model's reading, log 55), and awaits the frame, its due waves withdrawn (R96, R106), and RDY drops; a scan at work with no frame in
flight takes the ending and offers its cleanup wave, or ends with no relay of its column CLOSED, and one in its cleanup awaits the wave still
due or ends (R140, R138; logs 39 and 55 where an ending stands); and the service order takes the abort. That no walk comes before the last
lane is reached, so that a waiting order is aborted as one, is the model's choice (log 58). No relay, wear, configuration copy or bay
changes. -/
def Obligations.ParkAllAndDisableReachEveryLane : Prop :=
  ∀ (s : State) (i : Instr) (d : DeviceState), s.host.device = .enabled → s.ClaimsSound →
    (i = .parkAll ∧ d = .parking ∨ i = .disable ∧ d = .disabling) →
    ∃ t, exec i s = .next t ∧ t.host.device = d ∧ t.host.refused = false ∧ t.host.cause = s.host.cause ∧
      ((∃ n : LaneId, ¬ t.Parked n) → t.host.passage = .aborting ∧ t.link.parkDue = s.link.parkDue) ∧
      (∀ n : LaneId, (s.lanes[n].state = .idle ∨ s.lanes[n].state = .halted ∨
          s.lanes[n].state = .fetching ∧ s.lanes[n].access = none) →
        t.lanes[n].state = .halted ∧ t.lanes[n].halt = some .parked ∧ t.lanes[n].cursor = s.lanes[n].cursor ∧
          t.lanes[n].missed = s.lanes[n].missed ∧ t.lanes[n].pendingStart = false ∧ t.lanes[n].offsetTimer = none ∧
          t.lanes[n].cadenceTimer = none ∧ t.lanes[n].pollTimer = none) ∧
      (∀ n : LaneId, (s.lanes[n].state = .fetching ∨ s.lanes[n].state = .offset ∨ s.lanes[n].state = .running) →
        s.lanes[n].access.isSome = true →
        t.lanes[n].state = s.lanes[n].state ∧ t.lanes[n].deferred = .park ∧ t.lanes[n].cursor = s.lanes[n].cursor) ∧
      (∀ n : LaneId, s.lanes[n].state = .offset → s.lanes[n].access = none →
        OffsetAborted s t n ∧ t.lanes[n].deferred = .park) ∧
      (∀ n : SiteId, s.lanes[siteLane n].state = .running → s.lanes[siteLane n].access = none → Going s n →
        (s.contexts[n].scanPhase = .none ∨ s.contexts[n].scanPhase = .claim) →
        OrderReported s t n .aborted { s.contexts[n].acc with failing := none } ∧ NotWaiting t n ∧ t.rdy[n] = false ∧
          t.lanes[siteLane n].state = .running ∧ t.lanes[siteLane n].deferred = .park ∧
          ∀ p ∈ s.contexts[n].disconnect ++ s.contexts[n].connect, s.PathsSound → t.paths[p] = s.paths[p]) ∧
      (∀ n : SiteId, s.lanes[siteLane n].state = .running → s.lanes[siteLane n].access = none → FrameAwaited s n →
        t.contexts[n] = abortAwaited s.contexts[n] true ∧ t.rdy[n] = false ∧
          t.lanes[siteLane n] = { s.lanes[siteLane n] with deferred := .park } ∧
          ∀ p ∈ s.contexts[n].disconnect ++ s.contexts[n].connect, s.PathsSound → t.paths[p] = s.paths[p]) ∧
      (∀ (n : SiteId) (o : Order), s.lanes[siteLane n].state = .running → s.lanes[siteLane n].access = none →
        s.contexts[n].order = some o → s.inFlight n = false → s.contexts[n].passed = true →
        s.contexts[n].scanPhase.AtWork ∨ s.contexts[n].scanPhase = .cleanup ∨ s.contexts[n].scanPhase = .guardOff →
        ScanAborted s t n true ∧ NotWaiting t n ∧ (s.contexts[n].ending ≠ some .ok → t.rdy[n] = false) ∧
          t.lanes[siteLane n].state = .running ∧ t.lanes[siteLane n].deferred = .park ∧
          (s.contexts[n].ending = none → ∀ p ∈ s.contexts[n].disconnect ++ s.contexts[n].connect, s.PathsSound → t.paths[p] = s.paths[p])) ∧
      (s.lanes[serviceLane].state = .running → s.lanes[serviceLane].access = none →
        ServiceAborted s t ∧ t.lanes[serviceLane].deferred = .park) ∧
      t.image = s.image ∧ t.health = s.health ∧ t.cfg = s.cfg ∧ t.live = s.live ∧ t.link.bays = s.link.bays ∧
      t.link.frame = s.link.frame ∧ t.link.rate = s.link.rate

/-- R14, R34, R74, R172, R173: once the last lane has parked, PARK_ALL and DISABLE offer one opening wave for each ONLINE bay with a CLOSED
relay. When the last of them has resolved, by its ACK, its NAK or its final failure, every defined path becomes IDLE, every row FREE and
every context returns to NONE; PARK_ALL waits for the lane status words (log 25) and DISABLE goes on to the wear save. Until then
nothing is cleared. -/
def Obligations.ParkAllOpensAndClears : Prop :=
  (∀ (s : State) (i : Instr) (d : DeviceState), s.host.device = .enabled → s.arbiter.walkOwed = false →
    (i = .parkAll ∧ d = .parking ∨ i = .disable ∧ d = .disabling) → (∀ f, s.link.frame = some f → f.owner ≠ .park) →
    (∀ n : LaneId, s.lanes[n].state = .idle ∧ s.lanes[n].access = none ∨ s.lanes[n].state = .halted ∧ s.lanes[n].access = none ∨
      s.lanes[n].state = .fetching ∧ s.lanes[n].access = none) →
    ∃ t, exec i s = .next t ∧ (∀ n : LaneId, t.Parked n) ∧ ParkProceeds s t d) ∧
  (∀ (s : State) (n : LaneId) (op : LaneOp) (m : MemAccess) (i : Instr), s.host.passage = .aborting →
    (s.host.device = .parking ∨ s.host.device = .disabling) → s.arbiter.walkOwed = false →
    (∀ f, s.link.frame = some f → f.owner ≠ .park) → s.lanes[n].access = some { op := op, access := m } →
    s.lanes[n].deferred = .park → (∀ k : LaneId, k ≠ n → s.Parked k) →
    (op = .finalState ∧ (∃ ok, i = .stateWriteDone n m.tag ok) ∨ op = .recordRead ∧ (∃ r, i = .recordReadDone n m.tag r) ∨
      (op = .linkRead ∨ op = .endLinkRead) ∧ (∃ r, i = .linkReadDone n m.tag r) ∨
      op = .headRead ∧ (∃ r, i = .headReadDone n m.tag r) ∨ op = .endResult ∧ i = .endResultWriteDone n m.tag false ∨
      op = .startResult ∧ i = .startResultWriteDone n m.tag false ∨ op = .taken ∧ i = .takenWriteDone n m.tag false) →
    ∃ t, exec i s = .next t ∧ t.Parked n ∧ ParkProceeds s t s.host.device) ∧
  ∀ (s : State) (f : LinkFrame) (w : Wave) (words : List (Nat × Byte)) (i : Instr), s.host.passage = .parkWaves →
    (s.host.device = .parking ∨ s.host.device = .disabling) → s.arbiter.walkOwed = false → s.NoOrders →
    s.link.frame = some f → f.body = .wave w words → f.owner = .park → f.bay = w.bay →
    s.link.bays[w.bay].state = .online →
    (i = .waveAck ∨ (∃ reasons, i = .waveNak reasons) ∨ f.repeated = true ∧ ∃ fault, i = .frameFinalFailure fault) →
    ∃ t, exec i s = .next t ∧ t.link.frame = none ∧
      let rest := if i = .waveAck then s.link.parkDue else s.link.parkDue.filter fun x => x.bay ≠ w.bay
      t.link.parkDue = rest ∧
      (rest ≠ [] → t.host.device = s.host.device ∧ t.host.passage = .parkWaves ∧ t.arbiter.holders = s.arbiter.holders ∧
        ∀ p : PathId, s.paths[p].state ≠ .active → t.paths[p] = s.paths[p]) ∧
      (rest = [] → ParkCleared s t s.host.device)

/-- R149, R173 steps 2 to 5: the wear save of DISABLE goes on past an error, which sets MEMORY; after its last transfer every lane is DISABLED
and every bay ABSENT, the copies, the thresholds and the wear area address copy take their reset values, the WORN and RETIRED marks
are clear, the live enables are 0 (log 35), the counters and the SUSPECT marks stand, every row is FREE with nothing waiting, every
context in NONE, the poll state idle, no timer of a bay runs, BRST is not asserted, and the status words are written. The values of
log 27 stand in a lane's reset value, and an address past 2^64 - 1 wraps (the model's reading, log 49). -/
def Obligations.DisableSavesTheWear : Prop :=
  ∀ (s : State) (j : Nat) (m : MemAccess) (ok : Bool), s.host.passage = .disableSave j → s.host.access = some m →
    ∃ t, exec (.disableSaveTransferDone m.tag ok) s = .next t ∧
      t.host.cause = s.host.cause ||| (if ok = true then 0 else causeMemory) ∧ t.host.device = s.host.device ∧
      t.health.wear = s.health.wear ∧ t.health.suspect = s.health.suspect ∧ t.paths = s.paths ∧
      (j ≠ 519 → t.host.passage = .disableSave (j + 1) ∧ t.lanes = s.lanes ∧ t.link = s.link ∧
        Issued s t t.host.access
          (.write (s.health.wearArea + BitVec.ofNat 64 (64 * (j + 1)))
            (((List.range 16).map fun i => octets 4 (s.wearOf (Fin.ofNat 8320 (16 * (j + 1) + i)))).flatten))) ∧
      (j = 519 → t.host.passage = .disableStatus ∧ t.cfg = .reset ∧ t.health.wearArea = 0 ∧ t.health.worn = [] ∧
        t.health.retired = [] ∧ t.link.rate = none ∧ t.image.closed = [] ∧
        (∀ row : RowId, t.live.enable[row] = false ∧ t.arbiter.holders[row] = .free) ∧ t.arbiter.waiting = [] ∧
        (∀ n : SiteId, t.contexts[n] = .reset ∧ t.plans[n] = none) ∧ t.link.poll = .idle ∧ t.link.discovery = .reset ∧
        t.link.parkDue = [] ∧ t.link.brst = s.link.brst ∧ t.live.line = s.live.line ∧ t.link.srq = s.link.srq ∧
        (∀ b : BayId, t.image.windows[b] = none) ∧
        (∀ ty : TypeId, t.health.thresholds[ty] = ⟨0, 0⟩ ∧ t.cfg.hotWeights[ty] = 1) ∧ (∀ n : SiteId, t.rdy[n] = false) ∧
        (∀ n : LaneId, t.lanes[n] = { Lane.reset with port := t.lanes[n].port } ∧ LaneWordWritten s t n 0) ∧
        ∀ b : BayId, t.link.bays[b] = { Bay.reset with port := t.link.bays[b].port } ∧ BayWordWritten s t b 0)

/-! ## The bay link -/

/-- R161, R162, R163: the frames of ranks 1 to 4: a pending POLL first, then the follow-ups of the poll in progress, then due keep-alives and
then due re-probes by ascending bay address. A link that carries a frame grants none. That one whose rate is unset grants none (log 42),
and that a due keep-alive stands through the grant of a follow-up to its bay (log 22), is the model's reading. -/
def Obligations.LinkRanks : Prop :=
  ∀ s : State,
    (s.link.frame.isSome = true ∨ s.link.rate = none → exec .linkGrant s = .next s) ∧
    (s.link.frame = none → s.link.rate.isSome = true → s.link.discovery.stage = .inactive →
      let pending := s.link.srq = true ∧ s.isOperating = true ∧ s.link.poll = .idle
      let alive : BayId → Prop := fun b => s.link.bays[b].state = .online ∨ s.link.bays[b].state = .held
      let due : BayId → Prop := fun b => s.link.bays[b].keepAliveDue = true ∧ alive b
      (pending → exec .linkGrant s = .next
        { s with link := { s.link with poll := .polling, frame := some ⟨0, .poll, .poll, false⟩ } }) ∧
      (∀ b rest done, s.link.poll = .followUps (b :: rest) done → ∃ t, exec .linkGrant s = .next t ∧
        t = { s with link := { s.link with frame := t.link.frame, bays := setAt s.link.bays b t.link.bays[b] } } ∧
        (alive b → done = false → t.link.frame = some ⟨b, .status, .followUp, false⟩) ∧
        (s.link.bays[b].state = .absent ∨ alive b ∧ done = true → t.link.frame = some ⟨b, .clear, .followUp, false⟩) ∧
        (alive b → t.link.bays[b] = { s.link.bays[b] with keepAlive := some s.now }) ∧
        (¬ alive b → t.link.bays[b] = s.link.bays[b])) ∧
      (¬ pending → (∀ b rest done, s.link.poll ≠ .followUps (b :: rest) done) →
        (∀ b : BayId, due b → (∀ c < b, ¬ due c) → exec .linkGrant s = .next
          { s with link := { s.link with
            frame := some ⟨b, .status, .keepAlive, false⟩
            bays := setAt s.link.bays b { s.link.bays[b] with keepAlive := some s.now, keepAliveDue := false } } }) ∧
        ((∀ c, ¬ due c) → ∀ b : BayId, (s.link.bays[b].reprobeDue = true ∧ s.link.bays[b].state = .faulted) →
          (∀ c < b, ¬ (s.link.bays[c].reprobeDue = true ∧ s.link.bays[c].state = .faulted)) → exec .linkGrant s = .next
          { s with link := { s.link with
            frame := some ⟨b, .probe, .reprobe, false⟩
            bays := setAt s.link.bays b { s.link.bays[b] with reprobeDue := false } } })))

/-- R161, R93, R98, R104, R108, R121, R126: with no frame of ranks 1 to 4, the first position after the pointer that has an eligible frame is
granted it, and the pointer moves there. A wave goes only to an ONLINE bay, and a closing wave to one that is not busy; its frame
carries one word for each coil group of its relays, with the group's states in the image and the wave's changes; a cleanup wave and a
park wave form their hot set at the grant; and the first wave of an order drops RDY. A context without an eligible wave is granted the
SENSE frame of its first bay that is ONLINE (the model's choice of the order that R104 leaves open, log 41), with the coil groups of its verify set in that bay; and position 8 the first eligible wave
of PARK_ALL. -/
def Obligations.WavesAreGrantedInTurn : Prop :=
  ∀ (s : State) (i position : Fin 9), s.link.frame = none → s.link.rate.isSome = true → s.link.discovery.stage = .inactive →
    s.pollPending = false → s.followUpFrame = none → s.keepAliveBay = none → s.reprobeBay = none →
    (∀ j : Fin 9, j < i → s.positionOffer (Fin.ofNat 9 (s.link.pointer.val + 1 + j.val)) = none) →
    position.val = (s.link.pointer.val + 1 + i.val) % 9 →
    let sent := fun (t : State) (b : BayId) (frame : LinkFrame) (parkDue : List Wave) =>
      t.link = { s.link with
        frame := some frame, pointer := position, parkDue := parkDue
        bays := setAt s.link.bays b { s.link.bays[b] with keepAlive := some s.now } }
    (∀ (n : SiteId) (w : Wave), n.val = position.val → s.contexts[n].due.find? s.waveEligible = some w →
      s.link.bays[w.bay].state = .online ∧ (w.closing = true → s.bayBusy w.bay = false) ∧
      ∃ t words, exec .linkGrant s = .next t ∧ s.WordsOf w words ∧
        sent t w.bay ⟨w.bay, .wave (s.sentWave w) words, .context n, false⟩ s.link.parkDue ∧
        t = { s with
          link := t.link, rdy := setAt s.rdy n (s.rdy[n] && s.contexts[n].waveGranted)
          contexts := setAt s.contexts n { s.contexts[n] with due := s.contexts[n].due.erase w, waveGranted := true } }) ∧
    (∀ (n : SiteId) (b : BayId), n.val = position.val → s.contexts[n].due.find? s.waveEligible = none →
      (s.contexts[n].senseDue.find? fun c => decide (s.link.bays[c].state = .online)) = some b →
      ascendingSet s.contexts[n].verifySet →
      ∃ t groups, exec .linkGrant s = .next t ∧ groups.Pairwise (· < ·) ∧
        (∀ g, g ∈ groups ↔ ∃ r ∈ s.contexts[n].verifySet, relayBay r = b ∧ relayGroup r = g) ∧
        sent t b ⟨b, .sense groups, .context n, false⟩ s.link.parkDue ∧
        t = { s with
          link := t.link
          contexts := setAt s.contexts n { s.contexts[n] with senseDue := s.contexts[n].senseDue.erase b } }) ∧
    ∀ w, position.val = 8 → s.link.parkDue.find? s.waveEligible = some w →
      s.link.bays[w.bay].state = .online ∧
      ∃ t words, exec .linkGrant s = .next t ∧ s.WordsOf w words ∧
        sent t w.bay ⟨w.bay, .wave (s.sentWave w) words, .park, false⟩ (s.link.parkDue.erase w) ∧ t = { s with link := t.link }

/-- R11, R12, R144, R145, R146: at the acknowledgement of a wave its relays take their new state and gain their wear, a closing wave sets
its bay's busy window, and a relay that crosses a threshold sets the WEAR cause; every other relay, window and counter is as it was. -/
def Obligations.AcknowledgedWaveIsApplied : Prop :=
  ∀ (s : State) (f : LinkFrame) (w : Wave) (words : List (Nat × Byte)), s.link.frame = some f → f.body = .wave w words →
    s.link.bays[w.bay].state = .online → s.WearSound → w.relays.Nodup → (∀ n ∈ w.relays, relayBay n = w.bay) →
    s.host.passage = .idle →
    ∃ t, exec .waveAck s = .next t ∧ t.link.frame = none ∧ t.link.bays = s.link.bays ∧
      (∀ n : RelayNo, n ∈ t.image.closed ↔ if n ∈ w.relays then w.closing = true else n ∈ s.image.closed) ∧
      (∀ b : BayId, t.image.windows[b] =
        if w.closing = true ∧ b = w.bay then
          some ⟨s.now, largest (w.relays.map fun n => (s.relayTimes n).operate.toNat)⟩
        else s.image.windows[b]) ∧
      (∀ n : RelayNo, t.wearOf n =
        if n ∈ w.relays then
          min (s.wearOf n + if n ∈ w.hot then s.cfg.hotWeights[s.cfg.rows[relayRow n].currentClass].toNat else 1) 4294967295
        else s.wearOf n) ∧
      (t.host = { s.host with cause := t.host.cause }) ∧
      let crossed := ∃ n ∈ w.relays, ∃ limit : Word32,
        (limit = (s.relayThresholds n).warn ∨ limit = (s.relayThresholds n).retire) ∧ limit ≠ 0 ∧
          s.wearOf n < limit.toNat ∧ limit.toNat ≤ t.wearOf n
      (crossed → t.host.cause = s.host.cause ||| causeWear) ∧ (¬ crossed → t.host.cause = s.host.cause)

/-- R99, R116, R96, R106: the acknowledgement of a wave of an order that goes on: its counts and flags, and the break timer of an opening
wave, the make timer of a bay's last closing wave, or the spacing timer of any other. Of an order that has taken an ending (no scan at
work), the frame that was on the link then ends it, with the ending's code: an acknowledged wave is counted and the named paths are
judged on the image with it applied (R105), by R31 in every role (the model's reading against R76, log 53), unless PARK_ALL or DISABLE has
ended the order; a NAK, or the final failure of a WAVE or SENSE frame, counts nothing. So also while PARK_ALL or DISABLE winds the orders
down (R172). The end by a SENSE reply stands in SenseReplyComparesTheRelays, that of a scan at work in ScansSwitchStepByStep. -/
def Obligations.AcknowledgedWaveIsCounted : Prop :=
  (∀ (s : State) (f : LinkFrame) (w : Wave) (words : List (Nat × Byte)) (n : SiteId), s.Quiet → s.link.frame = some f →
    f.body = .wave w words → f.owner = .context n → s.link.bays[w.bay].state = .online → w.source = .planned →
    s.contexts[n].ending = none → 0 < w.span →
    ∃ t, exec .waveAck s = .next t ∧
      t.contexts[n].acc = countedAcc s t s.contexts[n].acc w ∧
      t.contexts[n] = { s.contexts[n] with
        acc := t.contexts[n].acc
        breakTimers := if w.closing = true then s.contexts[n].breakTimers
          else setAt s.contexts[n].breakTimers w.bay (.running ⟨s.now, w.span⟩)
        spacingTimers := if w.closing = true ∧ s.contexts[n].nextClosings[w.bay] ≠ [] then
            setAt s.contexts[n].spacingTimers w.bay (some ⟨s.now, w.span⟩)
          else s.contexts[n].spacingTimers
        makeTimers := if w.closing = true ∧ s.contexts[n].nextClosings[w.bay] = [] then
            setAt s.contexts[n].makeTimers w.bay (.running ⟨s.now, w.span + w.bounce⟩)
          else s.contexts[n].makeTimers } ∧
      (∀ m : SiteId, m ≠ n → t.contexts[m] = s.contexts[m]) ∧ t.lanes = s.lanes ∧ t.rdy = s.rdy ∧ t.paths = s.paths ∧
      t.arbiter = s.arbiter) ∧
  ∀ (s : State) (f : LinkFrame) (n : SiteId) (code : Code), s.arbiter.walkOwed = false →
    s.host.passage = .idle ∨ s.host.passage = .aborting →
    s.link.frame = some f → f.owner = .context n →
    s.contexts[n].ending = some code → s.contexts[n].scanPhase = .none → NotWaiting s n →
    (∀ w words, f.body = .wave w words → s.link.bays[w.bay].state = .online →
      (w.source = .planned → (∀ r ∈ w.relays, relayBay r = w.bay) → ∃ t, exec .waveAck s = .next t ∧ t.link.frame = none ∧
        OrderReported s t n code (countedAcc s t s.contexts[n].acc w) ∧
        (∀ r : RelayNo, r ∈ t.image.closed ↔ r ∈ w.relays ∧ w.closing = true ∨ r ∈ s.image.closed ∧ r ∉ w.relays) ∧
        (code ≠ .ok → t.rdy[n] = false) ∧
        let u := { s with image := t.image }
        (s.contexts[n].unjudged = true → s.arbiter.waiting = [] → t.paths = s.paths ∧ t.arbiter = s.arbiter) ∧
        (s.contexts[n].unjudged = false → s.contexts[n].passed = true → s.arbiter.waiting = [] → PathsJudged u t n)) ∧
      ∀ reasons, ∃ t, exec (.waveNak reasons) s = .next t ∧ t.link.frame = none ∧
        BayDropped s t w.bay .held (reasons.extractLsb' 0 3) ∧ OrderReported s t n code s.contexts[n].acc ∧
        (code ≠ .ok → t.rdy[n] = false)) ∧
    ∀ fault, f.body ≠ .poll → f.repeated = true → ∃ t, exec (.frameFinalFailure fault) s = .next t ∧ t.link.frame = none ∧
      OrderReported s t n code s.contexts[n].acc ∧ (code ≠ .ok → t.rdy[n] = false)

/-- R157, R11, R13, R159, R160, R33: a frame's first failure has it sent once more unchanged. A NAK to a WAVE makes its bay HELD with the
reasons of the NAK, and the final failure of a frame to an ONLINE or HELD bay makes it FAULTED with the reasons it had, its re-probe
timer started: no wear is counted, and the bay's relays are OPEN. From ONLINE that is a bay drop: every ACTIVE path with a relay in
the bay becomes BROKEN, and keeps its definition. From HELD only the status word and the BAY cause follow (R159, which the model
follows against R13 and R112, log 47): no path, order, row or lane changes. -/
def Obligations.FailuresDropTheBay : Prop :=
  (∀ (s : State) (f : LinkFrame), s.link.frame = some f →
    (∀ fault, f.body ≠ .poll → f.repeated = false → s.link.rate.isSome = true →
      exec (.frameFirstFailure fault) s = .next
        { s with link := { s.link with frame := some { f with repeated := true } } }) ∧
    (∀ w words (reasons : Byte), f.body = .wave w words → s.link.bays[w.bay].state = .online →
      ∃ t, exec (.waveNak reasons) s = .next t ∧ t.link.frame = none ∧
        BayDropped s t w.bay .held (reasons.extractLsb' 0 3)) ∧
    ∀ fault, f.body ≠ .poll → f.repeated = true → f.owner ≠ .discovery → f.owner ≠ .reprobe →
      (s.link.bays[f.bay].state = .online ∨ s.link.bays[f.bay].state = .held) →
      ∃ t, exec (.frameFinalFailure fault) s = .next t ∧ t.link.frame = none ∧
        BayDropped s t f.bay .faulted s.link.bays[f.bay].reasons ∧ t.link.bays[f.bay].reprobe = some s.now ∧
        t.link.bays[f.bay].keepAlive = none ∧
        (s.link.bays[f.bay].state = .held → s.Quiet → (∀ n, f.owner = .context n → s.contexts[n].ending = none) →
          t.paths = s.paths ∧ t.contexts = s.contexts ∧ t.lanes = s.lanes ∧ t.arbiter = s.arbiter ∧ t.rdy = s.rdy ∧
            t.plans = s.plans ∧ t.host = s.host)) ∧
  ∀ (s : State) (i : Instr) (b : BayId) (state : BayState), DropsBay s i b state → s.Quiet →
    ∃ t, exec i s = .next t ∧ t.link.bays[b].state = state ∧ (s.NoOrders → PathsMarked s t b) ∧
      (s.PathsSound → ∀ p : PathId, s.paths[p].state = .active → t.paths[p] =
        if ∃ n ∈ s.relaySet p, relayBay n = b then { s.paths[p] with state := .broken } else s.paths[p])

/-- R112, R141, R110, R105, R106, R138, R83, R84: a bay that drops out of ONLINE, by a NAK, by a STATUS reply or by the final failure of a
frame, reaches every order that touches it: a SWITCH or PARK that has passed its checks and whose plan, or a relay set of whose named
paths, has a relay in the bay, with BAY_HELD where the bay holds and BAY_FAULT where it faults; a VERIFY whose verify set has a relay in
it with BAY_UNAVAILABLE; and, with the codes of a SWITCH, a SCAN from its grant on whose guard path has a relay in it, also while the
guard is being switched, or whose current column lies in it, or the new column of the step whose break runs. Each takes the no-index
value and ends, but for a scan that has relays CLOSED in another bay: it offers its cleanup wave; and one in its cleanup awaits a wave still
due in another bay and its break hold. That a drop of the cleanup wave's own bay ends a scan with no ending is the model's reading (log 40).
An order that has not passed its checks,
and one that the drop does not touch, is as it was. An order that waits for its claim is not reached; its planning event then ends it with
BAY_UNAVAILABLE, at the first path with a relay of O or C in a bay not ONLINE, unless a relay of C is RETIRED. That R112's planning event
finds the bay unavailable by check 2 of R83 is the model's reading (log 54), and so is that its paths return to their prior states,
also where the drop has opened relays of theirs (R30 against R33, log 48). -/
def Obligations.BayDropEndsItsOrders : Prop :=
  (∀ (s : State) (i : Instr) (b : BayId) (state : BayState) (n : SiteId) (o : Order), s.Quiet → DropsBay s i b state →
    s.contexts[n].order = some o → s.contexts[n].ending = none → NotWaiting s n →
    ∃ t, exec i s = .next t ∧
      let c := s.contexts[n]
      let code := if state = .held then Code.bayHeld else .bayFault
      let ends := fun code => OrderReported s t n code { c.acc with failing := none }
      let planned := ∃ plan, s.plans[n] = some plan ∧ ∃ r ∈ plan.opening ++ plan.closing, relayBay r = b
      let named := ∃ p ∈ c.disconnect ++ c.connect, ∃ r ∈ s.relaySet p, relayBay r = b
      let verified := ∃ r ∈ c.verifySet, relayBay r = b
      let guarded := ∃ p ∈ c.connect, ∃ r ∈ s.relaySet p, relayBay r = b
      let stepping := c.scanPhase = .stepBreak ∨ c.scanPhase = .stepGap ∨ c.scanPhase = .stepMake ∨ c.scanPhase = .stepSettle ∨
        c.scanPhase = .await
      let current := (stepping ∨ c.scanPhase = .cleanup ∧ c.cleanupHold = none) ∧ ∃ col, c.column = some col ∧ columnBay col = b
      let next := c.scanPhase = .stepBreak ∧ columnBay (c.scanOps.column c.stepIndex) = b
      let untouched := (∀ w ∈ c.due, w.source ≠ .cleanup) → t.contexts[n] = c
      ((o.kind = .switch ∨ o.kind = .park) → c.scanPhase = .none → c.passed = true → (planned ∨ named ∨ verified) →
        ends code) ∧
      (o.kind = .verify → c.scanPhase = .none → verified → ends .bayUnavailable) ∧
      (o.kind = .scan → c.passed = true → guarded ∨ current ∨ next →
        (stepping ∨ c.scanPhase = .guard →
          (∀ col, c.column = some col → columnBay col = b ∨ (s.cleanupWave c.scanOps.rowId col).relays = []) → ends code) ∧
        (stepping ∨ c.scanPhase = .guard →
          ∀ col, c.column = some col → columnBay col ≠ b → (s.cleanupWave c.scanOps.rowId col).relays ≠ [] →
            CleanupOffered s c t.contexts[n] code col) ∧
        (c.scanPhase = .cleanup → c.cleanupHold = none → (∀ w ∈ c.due, w.bay = b) → ends code) ∧
        (c.scanPhase = .cleanup → c.cleanupHold.isSome = true ∧ c.abortTaken = false ∨ (∃ w ∈ c.due, w.bay ≠ b) →
          (∀ w ∈ c.due, w.source = .cleanup) →
          t.contexts[n] = { c.stopped with
            ending := some code, acc := { c.acc with failing := none }, due := c.due.filter fun w => w.bay != b }) ∧
        (c.scanPhase = .guardOff → ends code)) ∧
      ((o.kind = .switch ∨ o.kind = .park) → (c.passed = false ∨ ¬ (planned ∨ named ∨ verified)) → untouched) ∧
      (o.kind = .verify → ¬ verified → untouched) ∧
      (o.kind = .scan → (c.passed = false ∨ ¬ (guarded ∨ current ∨ next)) → untouched)) ∧
  (∀ (s : State) (i : Instr) (b : BayId) (state : BayState) (n : SiteId), s.Quiet → DropsBay s i b state →
    (∃ e ∈ s.arbiter.waiting, e.lane = n) → (∀ m : SiteId, m ≠ n → s.contexts[m].order = none ∧ s.contexts[m].ending = none) →
    s.contexts[n].passed = false → s.contexts[n].ending = none → (∀ w ∈ s.contexts[n].due, w.source ≠ .cleanup) →
    (∀ o, s.contexts[n].order = some o → o.kind = .switch ∨ o.kind = .scan) →
    ∃ t, exec i s = .next t ∧
      t.contexts[n] = s.contexts[n] ∧
      t.arbiter = s.arbiter ∧ t.lanes = s.lanes ∧ t.plans = s.plans ∧ t.rdy = s.rdy) ∧
  ∀ (s : State) (n : SiteId) (o : Order) (i : Nat) (opening closing : List RelayNo),
    let c := s.contexts[n]
    let t := s.afterGrant n
    c.order = some o → Going s n → c.passed = false →
    (o.kind = .switch ∧ c.scanPhase = .none ∧ c.disconnect.length ≤ 8 ∨ o.kind = .scan ∧ c.disconnect = [] ∧ c.connect ≠ []) →
    ascendingSet opening → (∀ x, x ∈ opening ↔ ∃ p ∈ c.disconnect, s.GivesOpening n p x) →
    ascendingSet closing → (∀ x, x ∈ closing ↔ ∃ p ∈ c.connect, s.GivesClosing p x) →
    (∀ x ∈ closing, s.isRetired x = false) → FirstAt (s.BayMissing n) i →
    let settle := if closing = [] then 0 else largest (c.connect.map fun p => s.paths[p].extraSettle.toNat)
    OrderReported s t n .bayUnavailable
        { c.acc with planned := s.plannedTime opening closing settle, failing := some i } ∧
      t.rdy[n] = false ∧ t.image = s.image ∧ (c.unjudged = false → t.plans[n] = none ∧ PathsReturned s t n)

/-- R147, R148, R104, R110: a SENSE reply sets the SUSPECT mark of each compared relay whose sensed state differs from the image and clears
that of each one that agrees; no other mark, no counter and no relay of the image changes. The mismatches are counted up to 255 and
listed, the eight lowest relay numbers in ascending order, each with the state of the image and the one sensed; and the last reply ends
the order OK, or with SENSE_MISMATCH if any was counted. Where the order has taken an ending (no scan at work), the reply is compared and
counted all the same, and then ends the order with the ending's code (R106), also while PARK_ALL or DISABLE winds the orders down (R172). -/
def Obligations.SenseReplyComparesTheRelays : Prop :=
  ∀ (s : State) (f : LinkFrame) (groups : List Nat) (words : List Byte) (n : SiteId), s.arbiter.walkOwed = false →
    s.host.passage = .idle ∨ s.host.passage = .aborting → s.link.frame = some f →
    f.body = .sense groups → f.owner = .context n → words.length = groups.length →
    s.contexts[n].Sound → ascendingSet s.contexts[n].verifySet →
    ∃ t, exec (.senseReply words) s = .next t ∧ t.link.frame = none ∧ t.image = s.image ∧ t.health.wear = s.health.wear ∧
      (∀ r : RelayNo, r ∈ s.contexts[n].verifySet → relayBay r = f.bay → ∀ i : Nat, groups[i]? = some (relayGroup r) →
        (∀ j < i, groups[j]? ≠ some (relayGroup r)) →
        (t.isSuspect r = true ↔ (words.getD i 0).getLsbD (relayIndex r % 8) ≠ s.isClosed r)) ∧
      (∀ r : RelayNo, r ∉ s.contexts[n].verifySet ∨ relayBay r ≠ f.bay → t.isSuspect r = s.isSuspect r) ∧
      let old := s.contexts[n].acc
      let found := s.contexts[n].verifySet.filter fun r =>
        relayBay r == f.bay && sensedState groups words r != s.isClosed r
      ∃ list : List Mismatch,
        list.map Mismatch.relay = (ascending (old.mismatches.map Mismatch.relay ++ found)).take 8 ∧
        (∀ x ∈ list, (x.relay ∈ found → x.expected = s.isClosed x.relay ∧ x.sensed = !s.isClosed x.relay) ∧
          (x.relay ∉ found → x ∈ old.mismatches)) ∧
        let acc := { old with
          mismatchCount := min (old.mismatchCount + found.length) 255, mismatches := list
          suspect := old.suspect || decide (0 < found.length) }
        (s.host.passage = .idle ∨ s.lanes[siteLane n].state = .running → s.contexts[n].ending = none →
          s.contexts[n].senseDue ≠ [] → t.contexts[n] = { s.contexts[n] with acc := acc }) ∧
        (s.contexts[n].ending = none → s.contexts[n].senseDue = [] → NotWaiting s n →
          OrderReported s t n (if acc.mismatchCount = 0 then .ok else .senseMismatch) acc) ∧
        ∀ code, s.contexts[n].ending = some code → s.contexts[n].scanPhase = .none → NotWaiting s n →
          OrderReported s t n code acc ∧ (code ≠ .ok → t.rdy[n] = false)

/-- R159, R160: a STATUS reply. An ONLINE bay with any reason drops into HELD, a HELD bay with none returns to ONLINE, and a HELD bay with
other reasons records them, each with its status word and then the BAY cause; with the same reasons nothing changes. -/
def Obligations.StatusReplySetsTheBay : Prop :=
  ∀ (s : State) (f : LinkFrame) (octet : Byte), s.link.frame = some f → f.body = .status →
    ∃ t, exec (.statusReply octet) s = .next t ∧ t.link.frame = none ∧
      let reasons := octet.extractLsb' 0 3
      let bay := s.link.bays[f.bay]
      (bay.state = .online → reasons ≠ 0 → BayDropped s t f.bay .held reasons) ∧
      (bay.state = .held → reasons = 0 →
        t.link.bays[f.bay] =
          { bay with state := .online, reasons := 0, reprobe := none, reprobeDue := false, port := t.link.bays[f.bay].port } ∧
        (s.isOperating = true → BayWordWritten s t f.bay causeBay)) ∧
      (bay.state = .held → reasons ≠ 0 → reasons ≠ bay.reasons →
        t.link.bays[f.bay].state = .held ∧ t.link.bays[f.bay].reasons = reasons ∧
        (s.isOperating = true → BayWordWritten s t f.bay causeBay)) ∧
      (bay.state = .online ∧ reasons = 0 ∨ bay.state = .held ∧ reasons ≠ 0 ∧ reasons = bay.reasons ∨
          bay.state = .absent ∨ bay.state = .probing ∨ bay.state = .faulted →
        t.link.bays = s.link.bays ∧ t.image = s.image)

/-- R157, R162: the slots of a POLL give the follow-up list, the bays that request by ascending address; a FAULTED one has its re-probe due
instead. Each CLEAR reply takes its bay from the list. At the end of the list the lockout runs while SRQ is asserted; it ends after
1 ms, or when SRQ is deasserted. That a sequence which ends while SRQ is deasserted starts no lockout is the model's reading (log 20). -/
def Obligations.PollSequence : Prop :=
  ∀ (s : State) (f : LinkFrame),
    (∀ slots : Vector (Option Byte) 8, s.link.frame = some f → f.body = .poll → s.link.poll = .polling →
      ∃ t, exec (.pollSlotsEnd slots) s = .next t ∧ t.link.frame = none ∧
        ((∀ b : BayId, ¬ SlotRequests b slots[b] ∨ s.link.bays[b].state = .faulted) →
          t.link.poll = (if s.link.srq = true then .lockout s.now else .idle) ∧
          ∀ b : BayId,
            (SlotRequests b slots[b] → t.link.bays[b] = { s.link.bays[b] with reprobeDue := true }) ∧
            (¬ SlotRequests b slots[b] → t.link.bays[b] = s.link.bays[b])) ∧
        ∀ b : BayId, SlotRequests b slots[b] → Followed s b → (∀ c < b, ¬ SlotRequests c slots[c]) →
          ∃ rest, t.link.poll = .followUps (b :: rest) false ∧ t.link.bays = s.link.bays ∧ (b :: rest).Pairwise (· < ·) ∧
            ∀ c, c ∈ b :: rest ↔ SlotRequests c slots[c]) ∧
    (∀ b rest done, s.link.frame = some f → f.body = .clear → s.link.poll = .followUps (b :: rest) done →
      (rest = [] → exec .clearReply s = .next
        { s with link := { s.link with frame := none, poll := if s.link.srq = true then .lockout s.now else .idle } }) ∧
      ∀ c more, rest = c :: more → Followed s c → exec .clearReply s = .next
        { s with link := { s.link with frame := none, poll := .followUps (c :: more) false } }) ∧
    (∀ start, s.link.poll = .lockout start →
      exec .pollLockoutExpiry s = .next
        (if 1000 ≤ (s.now - start).toNat then { s with link := { s.link with poll := .idle } } else s)) ∧
    ((∃ start, s.link.poll = .lockout start) →
      exec (.srqChange false) s = .next { s with link := { s.link with srq := false, poll := .idle } }) ∧
    ∀ level : Bool, (level = true ∨ ∀ start, s.link.poll ≠ .lockout start) →
      exec (.srqChange level) s = .next { s with link := { s.link with srq := level } }

/-- R10, R12, R163, R164: a bay is busy while less than the hold length has passed since its last closing wave was acknowledged, and no
register changes when that time has passed. The keep-alive of an ONLINE or HELD bay falls due 1 ms after its last frame, and the
re-probe of a FAULTED bay 100 ms after its timer started. A re-probe that fails restarts the timer; one that is answered
makes the bay ABSENT, ONLINE or HELD, and changes no path, order, row or lane. That the end of a busy window changes no register (log 28), that a re-probe timer stops at its
expiry (log 22), that a re-probe which fell due meanwhile stays due (log 57), that another model's reasons are recorded with the
bay ABSENT (log 18), and that a bay which a re-probe makes HELD reaches no order (log 47), is the model's reading. -/
def Obligations.BayTimers : Prop :=
  ∀ (s : State) (b : BayId),
    exec (.busyWindowEnd b) s = .next s ∧
    (s.bayBusy b = true ↔ ∃ w, s.image.windows[b] = some w ∧ (s.now - w.acked).toNat < w.hold) ∧
    (∀ start, s.link.bays[b].keepAlive = some start → (s.link.bays[b].state = .online ∨ s.link.bays[b].state = .held) →
      exec (.keepaliveExpiry b) s = .next
        (if 1000 ≤ (s.now - start).toNat then s.modBay b fun bay => { bay with keepAliveDue := true } else s)) ∧
    (∀ start, s.link.bays[b].reprobe = some start → s.link.bays[b].state = .faulted →
      exec (.reprobeTimerExpiry b) s = .next
        (if 100000 ≤ (s.now - start).toNat then s.modBay b fun bay => { bay with reprobe := none, reprobeDue := true } else s)) ∧
    ∀ rep, s.link.frame = some ⟨b, .probe, .reprobe, rep⟩ → s.link.bays[b].state = .faulted →
      (∀ fault, rep = true → exec (.frameFinalFailure fault) s = .next
        { s with link := { s.link with frame := none, bays := setAt s.link.bays b { s.link.bays[b] with reprobe := some s.now } } }) ∧
      ∀ model ready octet : Byte, ∃ t, exec (.reprobeReply model ready octet) s = .next t ∧
        t.link.frame = none ∧ t.link.bays[b].model = model ∧
        (t.link.bays[b].mismatch = true ↔ model ≠ s.cfg.bays[b].model) ∧ t.link.bays[b].reprobe = none ∧
        (∀ c : BayId, c ≠ b → t.link.bays[c] = s.link.bays[c]) ∧ (∀ n ∈ t.image.closed, n ∈ s.image.closed) ∧
        t.health = s.health ∧ t.paths = s.paths ∧ t.contexts = s.contexts ∧ t.lanes = s.lanes ∧
        t.arbiter = s.arbiter ∧ t.rdy = s.rdy ∧ (s.isOperating = true → BayWordWritten s t b causeBay) ∧
        let reasons := octet.extractLsb' 0 3
        (model ≠ s.cfg.bays[b].model → t.link.bays[b].state = .absent ∧ t.link.bays[b].reasons = reasons) ∧
        (model = s.cfg.bays[b].model → ready.getLsbD 0 = true → reasons = 0 →
          t.link.bays[b].state = .online ∧ t.link.bays[b].reasons = 0 ∧ t.link.bays[b].keepAlive = some s.now) ∧
        (model = s.cfg.bays[b].model → (ready.getLsbD 0 = false ∨ reasons ≠ 0) →
          t.link.bays[b].state = .held ∧ t.link.bays[b].keepAlive = some s.now ∧
          t.link.bays[b].reasons = if ready.getLsbD 0 = true then reasons else reasons ||| 4)

/-- R165, R166: discovery. After 100 µs of BRST a pass probes the expected bays by ascending address. A reply makes its bay ABSENT, ONLINE or
HELD, or has it wait; a waiting bay is probed again 1 ms later and HELD with COIL_SUPPLY after 50 ms, with that reason alone (the model's
reading, log 15); a bay that answers no PROBE of the pass is silent. A pass that ends with a silent bay, whether its last PROBE failed
or was answered, has every expected bay probed again at the next slower rate, waiting bays included. At 10 Mbit/s, or with no silent bay
at any rate, the rate is fixed and the silent bays are ABSENT; discovery then waits for the bays that were not ready; and once no bay
waits, discovery ends: the ONLINE and HELD bays start their keep-alive timers, and the wear load begins, or fails ENABLE with WEAR_AREA
where the wear area is not aligned, the counters and marks left as they stood (the model's reading, log 24). A waiting bay whose re-probe
fails for good is ABSENT, and so is one that its ready wait has made HELD meanwhile (FAULTED only once discovery has ended: log 19), each
with the reasons it had (log 56), and another model's reasons are recorded with its bay ABSENT (log 18), both
the model's reading. -/
def Obligations.DiscoveryFindsTheBays : Prop :=
  ∀ s : State,
    (∀ start, s.link.discovery.stage = .pulse start →
      ((s.now - start).toNat < 100 → exec .brstPulseEnd s = .next s) ∧
      (100 ≤ (s.now - start).toNat → ∃ t, exec .brstPulseEnd s = .next t ∧ t.link.brst = false ∧ t.link.rate = s.link.rate ∧
        t.link.discovery = ⟨.pass, (List.finRange 8).filter fun b => s.cfg.expected.getLsbD b.val, [], []⟩ ∧
        ∀ b : BayId, s.cfg.expected.getLsbD b.val = true → t.link.bays[b].state = .probing)) ∧
    (∀ b rest, s.link.discovery.stage = .pass → s.link.discovery.toProbe = b :: rest → b ∉ rest → s.link.frame = none →
      s.link.rate.isSome = true → ∃ t, exec .linkGrant s = .next t ∧ t.link.frame = some ⟨b, .probe, .discovery, false⟩ ∧
        t.link.discovery.toProbe = rest ∧ t.link.bays = s.link.bays) ∧
    (∀ b rep, s.link.frame = some ⟨b, .probe, .discovery, rep⟩ → s.link.bays[b].state = .probing → s.link.discovery.stage = .pass →
      (s.link.discovery.toProbe ≠ [] →
        (rep = true → ∀ fault, ∃ t, exec (.frameFinalFailure fault) s = .next t ∧
          t.link.frame = none ∧ t.link.bays = s.link.bays ∧ t.link.rate = s.link.rate ∧ t.link.discovery = { s.link.discovery with silent := t.link.discovery.silent } ∧
          ∀ c : BayId, c ∈ t.link.discovery.silent ↔ c = b ∨ c ∈ s.link.discovery.silent) ∧
        ((∀ x ∈ s.link.discovery.waiting, x.bay ≠ b) →
          ∀ model ready octet : Byte, ∃ t, exec (.discoveryProbeReply model ready octet) s = .next t ∧
            t.link.frame = none ∧ t.link.bays[b].model = model ∧ (t.link.bays[b].mismatch = true ↔ model ≠ s.cfg.bays[b].model) ∧
            (∀ c : BayId, c ≠ b → t.link.bays[c] = s.link.bays[c]) ∧ t.link.rate = s.link.rate ∧
            let reasons := octet.extractLsb' 0 3
            (model ≠ s.cfg.bays[b].model → t.link.bays[b].state = .absent ∧ t.link.discovery = s.link.discovery) ∧
            (model = s.cfg.bays[b].model → ready.getLsbD 0 = true → t.link.discovery = s.link.discovery ∧
              t.link.bays[b].state = (if reasons = 0 then .online else .held) ∧ t.link.bays[b].reasons = reasons) ∧
            (model = s.cfg.bays[b].model → ready.getLsbD 0 = false → t.link.bays[b].state = .probing ∧
              t.link.discovery =
                { s.link.discovery with waiting := s.link.discovery.waiting ++ [⟨b, s.now, s.now, false⟩] }))) ∧
      (s.link.discovery.toProbe = [] → ∀ r : Fin 3, s.link.rate = some r → r.val < 2 →
        (rep = true → ∀ fault, ∃ t, exec (.frameFinalFailure fault) s = .next t ∧ PassFalls s t r) ∧
        (s.link.discovery.silent ≠ [] → ∀ model ready octet : Byte,
          ∃ t, exec (.discoveryProbeReply model ready octet) s = .next t ∧ PassFalls s t r))) ∧
    (∀ w more, s.link.discovery.stage = .waiting → s.link.discovery.waiting = w :: more → (∀ x ∈ more, x.bay ≠ w.bay) →
      (s.link.frame = none → exec (.discoveryReprobeDue w.bay) s = .next
        (s.setDiscovery { s.link.discovery with
          waiting := (if 1000 ≤ (s.now - w.resolved).toNat then { w with due := true } else w) :: more })) ∧
      (50000 ≤ (s.now - w.since).toNat → ∃ t, exec (.readyWaitExpiry w.bay) s = .next t ∧
        (more ≠ [] → t.link.bays[w.bay].state = .held ∧ t.link.bays[w.bay].reasons = 4 ∧ t.link.discovery.waiting = more ∧
          ∀ c : BayId, c ≠ w.bay → t.link.bays[c] = s.link.bays[c]) ∧
        (more = [] → DiscoveryEnds s t fun c =>
          if c = w.bay then { s.link.bays[c] with state := .held, reasons := 4, reprobe := none, reprobeDue := false }
          else s.link.bays[c]))) ∧
    (∀ b rep, s.link.frame = some ⟨b, .probe, .discovery, rep⟩ → s.link.bays[b].state = .probing → s.link.discovery.stage = .pass →
      s.link.discovery.toProbe = [] → s.arbiter.walkOwed = false →
      let waiting := s.link.discovery.waiting
      let fixed := fun (silent : List BayId) (bay : Bay) (c : BayId) =>
        if c ∈ silent then { (s.link.bays[c].enter .absent 0 s.now) with model := 0, mismatch := false }
        else if c = b then bay else s.link.bays[c]
      (rep = true → s.link.rate = some 2 → ∀ fault, ∃ t, exec (.frameFinalFailure fault) s = .next t ∧
        let bays := fixed (b :: s.link.discovery.silent) s.link.bays[b]
        (waiting = [] → DiscoveryEnds s t bays) ∧ (waiting ≠ [] → ReadyWaits s t bays waiting)) ∧
      (s.link.discovery.silent = [] ∨ s.link.rate = some 2 → b ∉ s.link.discovery.silent → (∀ x ∈ waiting, x.bay ≠ b) →
        ∀ model ready octet : Byte, ∃ t, exec (.discoveryProbeReply model ready octet) s = .next t ∧
          let reasons := octet.extractLsb' 0 3
          let bays := fun state => fixed s.link.discovery.silent
            { (s.link.bays[b].enter state reasons s.now) with model := model, mismatch := model != s.cfg.bays[b].model }
          let decided := fun state =>
            (waiting = [] → DiscoveryEnds s t (bays state)) ∧ (waiting ≠ [] → ReadyWaits s t (bays state) waiting)
          (model ≠ s.cfg.bays[b].model → decided .absent) ∧
          (model = s.cfg.bays[b].model → ready.getLsbD 0 = true → decided (if reasons = 0 then .online else .held)) ∧
          (model = s.cfg.bays[b].model → ready.getLsbD 0 = false →
            ReadyWaits s t (bays .probing) (waiting ++ [⟨b, s.now, s.now, false⟩])))) ∧
    (∀ b, s.link.frame = some ⟨b, .probe, .discovery, true⟩ → s.link.bays[b].state = .held → ∀ fault,
      ∃ t, exec (.frameFinalFailure fault) s = .next t ∧ t.link.frame = none ∧
        (s.link.discovery.stage = .waiting → s.link.discovery.waiting ≠ [] → (∀ x ∈ s.link.discovery.waiting, x.bay ≠ b) →
          t.link.discovery = s.link.discovery ∧
            t.link.bays = setAt s.link.bays b (s.link.bays[b].enter .absent s.link.bays[b].reasons s.now)) ∧
        (s.link.discovery.stage = .inactive → t.link.discovery = s.link.discovery ∧ t.link.bays[b].state = .faulted ∧
          t.link.bays[b].reasons = s.link.bays[b].reasons ∧ ∀ c : BayId, c ≠ b → t.link.bays[c] = s.link.bays[c])) ∧
    ∀ b rep w, s.link.frame = some ⟨b, .probe, .discovery, rep⟩ → s.link.bays[b].state = .probing →
      s.link.discovery.stage = .waiting → s.link.discovery.waiting = [w] → w.bay = b → s.arbiter.walkOwed = false →
      (rep = true → ∀ fault, ∃ t, exec (.frameFinalFailure fault) s = .next t ∧
        DiscoveryEnds s t fun c => if c = b then s.link.bays[b].enter .absent s.link.bays[b].reasons s.now else s.link.bays[c]) ∧
      ∀ model ready octet : Byte, ∃ t, exec (.discoveryProbeReply model ready octet) s = .next t ∧
        let reasons := octet.extractLsb' 0 3
        let entered := fun state => fun c : BayId =>
          if c = b then
            { (s.link.bays[b].enter state reasons s.now) with model := model, mismatch := model != s.cfg.bays[b].model }
          else s.link.bays[c]
        (model ≠ s.cfg.bays[b].model → DiscoveryEnds s t (entered .absent)) ∧
        (model = s.cfg.bays[b].model → ready.getLsbD 0 = true →
          DiscoveryEnds s t (entered (if reasons = 0 then .online else .held))) ∧
        (model = s.cfg.bays[b].model → ready.getLsbD 0 = false →
          t.link.bays = setAt s.link.bays b (entered .probing b) ∧ t.host = s.host ∧
            t.link.discovery = { s.link.discovery with waiting := [{ w with resolved := s.now, due := false }] })

/-! ## The start of an order -/

/-- R27, R29, R30, R64, R65, R66, R67, R69, R72: a SWITCH that its lane hands over. Bad counts end it with BAD_OPERAND; the first id of its
lists that is UNDEFINED, of another site, or named before ends it with PATH_UNDEFINED, PATH_NOT_OWNED or BAD_OPERAND at its position; the
first connect path that conflicts ends it with ROW_CONFLICT at its position. A claim that is not granted at once ends it with ROW_BUSY
where its lane does not wait; else it joins the young end of the waiting list, its paths PENDING with their prior states. An order that
ends here leaves every path and every row as it was. -/
def Obligations.SwitchIsValidatedAndClaimed : Prop :=
  ∀ (s : State) (n : SiteId) (m : MemAccess) (h : HeldRecord), HandsOver s n m h 1 →
    ∃ t, exec (.takenWriteDone (siteLane n) m.tag true) s = .next t ∧
      let fails := fun code failing => StartFails s t n h code (accFailing failing)
      let ops := switchOperands (recordOperands h.bytes)
      let ds := ops.disconnect
      let cs := ops.connect
      let counts := ops.disconnectCount ≤ 8 ∧ ops.connectCount ≤ 8 ∧ (1 ≤ ops.disconnectCount ∨ 1 ≤ ops.connectCount)
      let limit := s.lanes[siteLane n].desc.claimWait
      (¬ counts → fails .badOperand none) ∧
      (counts →
        (∀ k p code, (ds ++ cs)[k]? = some p → s.idFault n ((ds ++ cs).take k) p = some code →
          (∀ j q, j < k → (ds ++ cs)[j]? = some q → s.idFault n ((ds ++ cs).take j) q = none) →
          fails code (some (if k < ds.length then k else 8 + (k - ds.length)))) ∧
        (s.IdsValid n (ds ++ cs) → (∀ p ∈ ds ++ cs, s.paths[p].state ≠ .pending) →
          (∀ i, FirstAt (s.ConflictsAt n ds cs) i → fails .rowConflict (some (8 + i))) ∧
          ((∀ i, ¬ s.ConflictsAt n ds cs i) → ∀ rows, s.ClaimRows ds cs rows → ¬ s.GrantedAtOnce rows →
            (limit = 0 → fails .rowBusy none) ∧
            (limit ≠ 0 → s.AllBlocked rows → ClaimWaits s t n (ds ++ cs) rows
              { Context.reset with
                order := some (s.orderOf n h .switch), disconnect := ds, connect := cs, phase := .claim }))))

/-- R28, R68, R75, R78, R79, R80, R81, R83, R84, R85, R86, R90, R97, R100, R102, R109: the planning event of a SWITCH whose claim is granted
at once, and of a PARK with a connected path. O holds the CLOSED relays that connected disconnect paths give up, and C the OPEN relays of
the IDLE and BROKEN connect paths. The first check that fails ends the order with its code, its failing index and the planned time, and
every path and row as it was. Else the rows granted have the connect paths as holders and the order has passed its checks: the opening waves
of O are due; with O empty the rows to be handed over have passed to the connect paths, and the first closing waves of C are due; and with
both empty the order ends OK. With no live row every hot set is empty. BayDropEndsItsOrders
states check 2 of an order that waited through a bay drop. -/
def Obligations.PlanDecidesTheOrder : Prop :=
  ∀ (s : State) (n : SiteId) (m : MemAccess) (h : HeldRecord) (kind : OrderKind) (ds cs : List PathId) (budget : Nat)
    (rows : List RowId) (opening closing : List RelayNo),
    (HandsOver s n m h 1 ∧ kind = .switch ∧
        (let ops := switchOperands (recordOperands h.bytes);
          ds = ops.disconnect ∧ cs = ops.connect ∧ budget = ops.budget ∧ ops.disconnectCount ≤ 8 ∧ ops.connectCount ≤ 8) ∧
        s.IdsValid n (ds ++ cs) ∧ (∀ p ∈ ds ++ cs, s.paths[p].state ≠ .pending) ∧ (∀ i, ¬ s.ConflictsAt n ds cs i) ∨
      HandsOver s n m h 2 ∧ kind = .park ∧ ascendingSet ds ∧ (∀ p, p ∈ ds ↔ s.Connected p ∧ s.paths[p].site = n) ∧ cs = [] ∧
        budget = 0) →
    ds ++ cs ≠ [] → (∀ p ∈ cs, s.Connected p → ∀ r ∈ s.paths[p].rowSet, s.arbiter.holders[r] = .path p) →
    s.ClaimRows ds cs rows → s.GrantedAtOnce rows →
    ascendingSet opening → (∀ x, x ∈ opening ↔ ∃ k, s.Opens ds cs k x) →
    ascendingSet closing → (∀ x, x ∈ closing ↔ ∃ k, s.Closes cs k x) →
    ∃ t, exec (.takenWriteDone (siteLane n) m.tag true) s = .next t ∧
      let settle := if closing = [] then 0 else largest (cs.map fun p => s.paths[p].extraSettle.toNat)
      let planned := s.plannedTime opening closing settle
      let acc := { Accumulators.reset with planned := planned }
      let rdy := if kind = .park then false else s.rdy[n]
      let passed := { Context.reset with
        order := some (s.orderOf n h kind), disconnect := ds, connect := cs, passed := true, acc := acc }
      let begun := t.lanes[siteLane n].state = .running ∧ t.lanes[siteLane n].access = none ∧ PathsNamed s t (ds ++ cs) ∧
        t = { s with
          arbiter := { s.arbiter with holders := t.arbiter.holders }, paths := t.paths, rdy := setAt s.rdy n rdy
          contexts := setAt s.contexts n t.contexts[n], plans := setAt s.plans n t.plans[n]
          lanes := setAt s.lanes (siteLane n) t.lanes[siteLane n], nextTag := t.nextTag }
      let slot := ∃ plan, t.plans[n] = some plan ∧ plan.opening = opening ∧ plan.closing = closing ∧ plan.planned = planned ∧
        plan.outcome = none ∧ plan.settle = settle ∧ plan.openingWaves = s.openingWaves opening ∧
        (∀ b : BayId, plan.closingWaves[b] = s.closingsOf closing b) ∧
        plan.gap = if opening = [] ∨ closing = [] then 0 else s.cfg.gap.toNat
      (∀ code failing, s.PlanFails ds cs budget planned code failing →
        StartFails s t n h code { acc with failing := failing }) ∧
      ((∀ code failing, ¬ s.PlanFails ds cs budget planned code failing) →
        (opening ≠ [] → s.NoLiveRow →
          begun ∧ slot ∧
          t.contexts[n] = { passed with
            phase := .break, due := s.openingWaves opening, breakTimers := t.contexts[n].breakTimers } ∧
          (∀ b : BayId, t.contexts[n].breakTimers[b] = if ∃ x ∈ opening, relayBay x = b then PhaseTimer.notStarted else .absent) ∧
          ∀ r : RowId, (∀ p ∈ cs, r ∈ rows → r ∈ s.paths[p].rowSet → t.arbiter.holders[r] = .path p) ∧
            (r ∉ rows → t.arbiter.holders[r] = s.arbiter.holders[r])) ∧
        (opening = [] → closing ≠ [] → s.NoLiveRow →
          begun ∧ slot ∧ ClosingsDue s t.contexts[n] closing ∧
          t.contexts[n] = { passed with
            phase := .make, due := t.contexts[n].due, nextClosings := t.contexts[n].nextClosings
            makeTimers := t.contexts[n].makeTimers } ∧
          ∀ r : RowId, (∀ p ∈ cs, r ∈ s.paths[p].rowSet → t.arbiter.holders[r] = .path p) ∧
            ((∀ p ∈ cs, r ∉ s.paths[p].rowSet) → t.arbiter.holders[r] = s.arbiter.holders[r])) ∧
        (opening = [] → closing = [] → (le16 h.bytes 2).getLsbD 2 = false →
          StartReported s t n h .ok acc ∧ t.rdy[n] = (rdy || (le16 h.bytes 2).getLsbD 3) ∧
          ∀ p ∈ ds ++ cs, t.paths[p].state ≠ .pending ∧ t.paths[p].prior = none))

/-- R28, R108, R109, R110, R104: a PARK of a site with no ACTIVE and no BROKEN path drops RDY and ends OK, RDY rising again if the record asks
for it. A VERIFY forms its verify set from the relay sets of the connected paths of its site: with a bay of it not ONLINE it ends with
BAY_UNAVAILABLE, with an empty set it ends OK, and else its bays are read back, by ascending address (the model's choice, log 41). No
path and no row changes. -/
def Obligations.ParkAndVerifyStart : Prop :=
  ∀ (s : State) (n : SiteId) (m : MemAccess) (h : HeldRecord),
    let ready := (le16 h.bytes 2).getLsbD 3
    (HandsOver s n m h 2 → (∀ p : PathId, s.paths[p].site = n → ¬ s.Connected p) →
      ∃ t, exec (.takenWriteDone (siteLane n) m.tag true) s = .next t ∧ StartEnds s t n h .ok .reset ready) ∧
    (HandsOver s n m h 3 → ∀ set, ascendingSet set →
      (∀ x : RelayNo, x ∈ set ↔ ∃ p, s.Connected p ∧ s.paths[p].site = n ∧ x ∈ s.relaySet p) →
      ∃ t, exec (.takenWriteDone (siteLane n) m.tag true) s = .next t ∧
        let online := ∀ x ∈ set, s.link.bays[relayBay x].state = .online
        (¬ online → StartFails s t n h .bayUnavailable .reset) ∧
        (set = [] → StartEnds s t n h .ok .reset (s.rdy[n] || ready)) ∧
        (set ≠ [] → online →
          t.lanes[siteLane n].state = .running ∧ t.lanes[siteLane n].access = none ∧
          ascendingSet t.contexts[n].senseDue ∧ (∀ b, b ∈ t.contexts[n].senseDue ↔ ∃ x ∈ set, relayBay x = b) ∧
          t = { s with
            lanes := setAt s.lanes (siteLane n) t.lanes[siteLane n], nextTag := t.nextTag
            contexts := setAt s.contexts n
              { Context.reset with
                order := some (s.orderOf n h .verify), phase := .verify, verifySet := set
                senseDue := t.contexts[n].senseDue } }))

/-- R128, R129, R130, R66, R67, R132, R133: a SCAN that its lane hands over is checked in order: its operands (BAD_OPERAND), its row's owner
and its columns (SCAN_RANGE, at the first column that is not mapped to its site), the RETIRED marks of the relays that it would close
(RELAY_RETIRED), its guard path's id (at index 8), the bays of its columns (BAY_UNAVAILABLE), the conflicts of its claim (ROW_CONFLICT, the
scan row's before the guard rows', the model's reading, log 52) and the claim itself (ROW_BUSY, or a place in the waiting list). A scan
without a guard path that is granted at once begins step 0: its row is held by it, its column is column 0 of the sequence, and the first
closing wave is due; one with a guard path has the guard's connection planned first, whose checks fail at index 8, and its first closing
waves are due, with no live row. -/
def Obligations.ScanIsCheckedAndClaimed : Prop :=
  ∀ (s : State) (n : SiteId) (m : MemAccess) (h : HeldRecord), HandsOver s n m h 4 →
    ∃ t, exec (.takenWriteDone (siteLane n) m.tag true) s = .next t ∧
      let fails := fun code failing => StartFails s t n h code (accFailing failing)
      let ops := scanOperands (recordOperands h.bytes)
      let row := ops.rowId
      let order := s.orderOf n h .scan
      let columns := (List.range ops.count).map ops.column
      let relays := columns.map (crosspoint row) ++ columns.map fun c => isolation (columnBay c) row
      let inRange := ops.row ≤ 15 ∧ ops.base ≤ 511 ∧ 1 ≤ ops.count ∧ ops.count ≤ 512 ∧ -64 ≤ ops.stride ∧ ops.stride ≤ 64 ∧
        ops.mode.toNat ≤ 2 ∧ ops.policy.toNat ≤ 2
      let rowOk := s.cfg.rows[row].owner = none ∨ s.cfg.rows[row].owner = some n
      let columnOk := s.ColumnOk n ops.base ops.stride
      let guard := ops.guard.toList
      let guardRows := fun r : RowId => ∃ g ∈ guard, s.paths[g].state = .idle ∧ r ∈ s.paths[g].rowSet
      (¬ inRange → fails .badOperand none) ∧
      (inRange → ¬ rowOk → fails .scanRange none) ∧
      (inRange → rowOk → ∀ i < ops.count, FirstAt (fun i => ¬ columnOk i) i → fails .scanRange (some i)) ∧
      (inRange → rowOk → (∀ i < ops.count, columnOk i) →
        ((∃ x ∈ relays, s.isRetired x = true) → fails .relayRetired none) ∧
        ((∀ x ∈ relays, s.isRetired x = false) →
          (∀ g ∈ guard, ∀ code, s.idFault n [] g = some code → fails code (some 8)) ∧
          (s.IdsValid n guard → (∀ g ∈ guard, s.paths[g].state ≠ .pending) →
            let online := ∀ c ∈ columns, s.link.bays[columnBay c].state = .online
            let rowConflict := s.HeldAt n row ∨ guardRows row
            let guardConflict := ∃ r, guardRows r ∧ s.HeldAt n r
            (¬ online → fails .bayUnavailable none) ∧
            (online → rowConflict → fails .rowConflict none) ∧
            (online → ¬ rowConflict → guardConflict → fails .rowConflict (some 8)) ∧
            (online → ¬ rowConflict → ¬ guardConflict → ∀ rows, ascendingSet rows → (∀ r, r ∈ rows ↔ r = row ∨ guardRows r) →
              let limit := s.lanes[siteLane n].desc.claimWait
              let claimed := { Context.reset with order := some order, connect := guard }
              let begun := fun c : Context => t.contexts[n] = c ∧ PathsNamed s t guard ∧
                t.lanes[siteLane n].state = .running ∧ t.lanes[siteLane n].access = none ∧
                (∀ r : RowId, t.arbiter.holders[r] =
                  if r = row then .scan n
                  else match guard with
                    | [] => s.arbiter.holders[r]
                    | g :: _ => if r ∈ rows then RowHolder.path g else s.arbiter.holders[r]) ∧
                t = { s with
                  arbiter := { s.arbiter with holders := t.arbiter.holders }, paths := t.paths
                  contexts := setAt s.contexts n c, plans := setAt s.plans n t.plans[n]
                  lanes := setAt s.lanes (siteLane n) t.lanes[siteLane n], nextTag := t.nextTag }
              (¬ s.GrantedAtOnce rows → limit = 0 → fails .rowBusy none) ∧
              (¬ s.GrantedAtOnce rows → limit ≠ 0 → s.AllBlocked rows →
                ClaimWaits s t n guard rows { claimed with scanPhase := .claim }) ∧
              (s.GrantedAtOnce rows → guard = [] → s.NoLiveRow → t.plans = s.plans ∧
                ∃ c, StepClosingsDue s { claimed with passed := true, column := some (ops.column 0) } c row (ops.column 0) true ∧
                  begun c) ∧
              (s.GrantedAtOnce rows → ∀ g, guard = [g] → (s.paths[g].state = .idle ∨ s.paths[g].state = .broken) →
                (s.Connected g → ∀ r ∈ s.paths[g].rowSet, s.arbiter.holders[r] = .path g) →
                ∀ closing, ascendingSet closing → (∀ x, x ∈ closing ↔ x ∈ s.wholeRelaySet g ∧ x ∉ s.image.closed) →
                  closing ≠ [] →
                  let planned := s.plannedTime [] closing s.paths[g].extraSettle.toNat
                  let acc := { Accumulators.reset with planned := planned }
                  (∀ code failing, s.PlanFails [] [g] 0 planned code failing → StartFails s t n h code { acc with failing := failing }) ∧
                  ((∀ code failing, ¬ s.PlanFails [] [g] 0 planned code failing) → s.NoLiveRow →
                    ClosingsDue s t.contexts[n] closing ∧
                    begun { claimed with
                      scanPhase := .guard, passed := true, acc := acc, due := t.contexts[n].due
                      nextClosings := t.contexts[n].nextClosings, makeTimers := t.contexts[n].makeTimers }))))))

/-! ## The switch contexts -/

/-- R72, R123, R106: a claim whose wait has reached its limit leaves the waiting list and its order ends with ROW_BUSY; a wave held for the
hot-wait limit is withdrawn and its order ends with HOT_TIMEOUT. Before its limit neither has an effect. -/
def Obligations.WaitsEndAtTheirLimits : Prop :=
  ∀ (s : State) (n : SiteId),
    ((∀ e ∈ s.arbiter.waiting, e.lane = n → (s.now - e.enqueued).toNat < s.lanes[siteLane n].desc.claimWait.toNat) →
      exec (.claimWaitExpiry n) s = .next s) ∧
    (∀ e ∈ s.arbiter.waiting, e.lane = n → s.lanes[siteLane n].desc.claimWait.toNat ≤ (s.now - e.enqueued).toNat → Going s n →
      (s.contexts[n].scanPhase = .none ∨ s.contexts[n].scanPhase = .claim) →
      ∃ t, exec (.claimWaitExpiry n) s = .next t ∧ NotWaiting t n ∧
        OrderReported s t n .rowBusy { s.contexts[n].acc with failing := none }) ∧
    ∀ h o, s.contexts[n].held = some h → s.contexts[n].order = some o →
      ((s.now - h.start).toNat < o.hotWait.toNat → exec (.hotHoldExpiry n) s = .next s) ∧
      (o.hotWait.toNat ≤ (s.now - h.start).toNat → Going s n → s.contexts[n].scanPhase = .none → NotWaiting s n →
        ∃ t, exec (.hotHoldExpiry n) s = .next t ∧
          OrderReported s t n .hotTimeout { s.contexts[n].acc with failing := h.failing })

/-- R97, R119, R120, R121, R122, R124, R127: the live check of a wave that falls due, here the next closing wave of a bay at the expiry of its
spacing timer. With no relay on a live row, or under ALLOW, the wave joins the due waves with its hot relays as its hot set. Under WAIT
it is held, with the index that a timeout would give, or joins the hold queue behind the wave that is held; with a hot-wait limit of 0
the order ends with HOT_TIMEOUT. Under REFUSE the order ends with HOT_REFUSED. -/
def Obligations.LiveCheckDecidesTheWave : Prop :=
  ∀ (s : State) (n : SiteId) (b : BayId) (timer : Timer) (w : Wave) (rest : List Wave) (o : Order), s.Quiet →
    s.contexts[n].spacingTimers[b] = some timer → s.Ran timer → s.contexts[n].nextClosings[b] = w :: rest →
    s.contexts[n].order = some o → s.contexts[n].ending = none →
    ∃ t, exec (.spacingTimerExpiry n b) s = .next t ∧
      let c := { s.contexts[n] with
        spacingTimers := setAt s.contexts[n].spacingTimers b none, nextClosings := setAt s.contexts[n].nextClosings b rest }
      let becomes := fun c' : Context => t = { s with contexts := setAt s.contexts n c' }
      ((∀ r ∈ w.relays, s.rowLive (relayRow r) = false) → becomes { c with due := c.due ++ [{ w with hot := [] }] }) ∧
      (s.Decides w .allow → becomes { c with due := c.due ++ [{ w with hot := s.hotSet w }] }) ∧
      (∀ failing, s.Decides w .wait → o.hotWait ≠ 0 → s.HotIndex n w .wait failing →
        (c.held = none → becomes { c with held := some { wave := w, start := s.now, failing := failing } }) ∧
        (c.held.isSome = true → becomes { c with holdQueue := c.holdQueue ++ [w] })) ∧
      (s.inFlight n = false → c.scanPhase = .none → NotWaiting s n → HotEnds s t s n w o.hotWait)

/-- R117, R122, R124, R125: a LIVE edge on a row whose enable is 0 changes only the level of the line. An edge on an enabled row has the held
wave of a context checked again if it has a relay on the row: with no live row left, or under ALLOW, the wave leaves the hold and joins
the due waves; under WAIT it is held on, its hold start unchanged; under REFUSE the order ends with HOT_REFUSED. When it leaves, the
waves of the hold queue are checked in turn: those with no live row join the due waves, and the first that must wait is held from
then on. -/
def Obligations.LiveEdgeRechecksTheHeldWave : Prop :=
  ∀ (s : State) (r : RowId),
    (∀ level : Bool, s.live.enable[r] = false ∨ s.live.line[r] = level →
      exec (.liveEdge r level) s = .next { s with live := { s.live with line := setAt s.live.line r level } }) ∧
    ∀ (n : SiteId) (h : HeldWave) (level : Bool) (o : Order), s.Quiet → s.live.enable[r] = true → s.live.line[r] ≠ level →
      s.contexts[n].held = some h → (∀ m : SiteId, m ≠ n → s.contexts[m].held = none) →
      s.contexts[n].order = some o → o.hotWait ≠ 0 → (∃ x ∈ h.wave.relays, relayRow x = r) →
      ∃ t, exec (.liveEdge r level) s = .next t ∧
        let u := { s with live := { s.live with line := setAt s.live.line r level } }
        let c := s.contexts[n]
        let cold (w : Wave) := ∀ x ∈ w.relays, u.rowLive (relayRow x) = false
        let becomes := fun c' : Context => t = { u with contexts := setAt s.contexts n c' }
        (cold h.wave → (∀ w ∈ c.holdQueue, cold w) →
          becomes { c with
            due := c.due ++ (h.wave :: c.holdQueue).map fun w => { w with hot := [] }, held := none, holdQueue := [] }) ∧
        (∀ w rest failing, cold h.wave → c.holdQueue = w :: rest → u.Decides w .wait → u.HotIndex n w .wait failing →
          becomes { c with
            due := c.due ++ [{ h.wave with hot := [] }], holdQueue := rest
            held := some { wave := w, start := s.now, failing := failing } }) ∧
        (u.Decides h.wave .allow → c.holdQueue = [] →
          becomes { c with due := c.due ++ [{ h.wave with hot := u.hotSet h.wave }], held := none }) ∧
        (∀ failing, u.Decides h.wave .wait → u.HotIndex n h.wave .wait failing →
          becomes { c with held := some { h with failing := failing } }) ∧
        (Going s n → c.scanPhase = .none → NotWaiting s n → HotEnds s t u n h.wave o.hotWait)

/-- R100, R75, R101: a break timer that runs out ends its bay's break; at the last one BREAK ends: the rows to be handed over take their
connect paths in one step and the gap timer starts. -/
def Obligations.BreakEndsWithTheHandover : Prop :=
  ∀ (s : State) (n : SiteId) (b : BayId) (timer : Timer), s.Quiet → s.contexts[n].breakTimers[b] = .running timer →
    (¬ s.Ran timer → exec (.breakTimerExpiry n b) s = .next s) ∧
    (s.Ran timer → (∃ c : BayId, c ≠ b ∧ s.contexts[n].breakTimers[c].Open) →
      exec (.breakTimerExpiry n b) s = .next { s with
        contexts := setAt s.contexts n
          { s.contexts[n] with breakTimers := setAt s.contexts[n].breakTimers b .expired } }) ∧
    ∀ plan, s.Ran timer → (∀ c : BayId, c ≠ b → ¬ s.contexts[n].breakTimers[c].Open) → s.contexts[n].scanPhase = .none →
      s.plans[n] = some plan → 0 < plan.gap →
      ∃ t, exec (.breakTimerExpiry n b) s = .next t ∧
        t = { s with
          arbiter := { s.arbiter with holders := t.arbiter.holders }
          contexts := setAt s.contexts n
            { s.contexts[n] with
              phase := .gap, breakTimers := .replicate 8 .absent, gapTimer := some ⟨s.now, plan.gap⟩ } } ∧
        ∀ r : RowId,
          let marked := ∃ d ∈ s.contexts[n].disconnect,
            (s.paths[d].prior = some .active ∨ s.paths[d].prior = some .broken) ∧ s.arbiter.holders[r] = .path d
          (∀ p, marked → (s.contexts[n].connect.find? fun q => s.paths[q].rowSet.contains r) = some p →
            t.arbiter.holders[r] = .path p) ∧
          (¬ marked ∨ (∀ p ∈ s.contexts[n].connect, r ∉ s.paths[p].rowSet) → t.arbiter.holders[r] = s.arbiter.holders[r])

/-- R97, R101, R102, R103: at the end of the gap the first closing wave of every bay falls due, by ascending bay; a spacing timer that runs
out brings the next; a make timer that runs out ends its bay's make, and at the last one the settle timer starts. With no live row
every wave passes its live check with an empty hot set. -/
def Obligations.ClosingWavesFallDueInTurn : Prop :=
  ∀ (s : State) (n : SiteId), s.Quiet →
    (∀ timer plan o, s.contexts[n].gapTimer = some timer → s.Ran timer → s.contexts[n].order = some o →
      (o.kind = .switch ∨ o.kind = .park) → s.contexts[n].scanPhase = .none → s.contexts[n].ending = none →
      s.plans[n] = some plan → s.NoLiveRow → (∃ b : BayId, plan.closingWaves[b] ≠ []) →
      ∃ t, exec (.gapTimerExpiry n) s = .next t ∧ t = { s with contexts := setAt s.contexts n t.contexts[n] } ∧
        t.contexts[n].phase = .make ∧ t.contexts[n].gapTimer = none ∧
        t.contexts[n].due = s.contexts[n].due ++
          ((List.finRange 8).filterMap fun b => plan.closingWaves[b].head?.map fun w => { w with hot := [] }) ∧
        ∀ b : BayId,
          (plan.closingWaves[b] ≠ [] →
            t.contexts[n].nextClosings[b] = plan.closingWaves[b].tail ∧ t.contexts[n].makeTimers[b] = .notStarted) ∧
          (plan.closingWaves[b] = [] → t.contexts[n].nextClosings[b] = s.contexts[n].nextClosings[b] ∧
            t.contexts[n].makeTimers[b] = s.contexts[n].makeTimers[b])) ∧
    (∀ b timer w rest, s.contexts[n].spacingTimers[b] = some timer → s.contexts[n].nextClosings[b] = w :: rest →
      (¬ s.Ran timer → exec (.spacingTimerExpiry n b) s = .next s) ∧
      (s.Ran timer → s.contexts[n].order.isSome = true → s.contexts[n].ending = none → s.NoLiveRow →
        exec (.spacingTimerExpiry n b) s = .next { s with
          contexts := setAt s.contexts n
            { s.contexts[n] with
            spacingTimers := setAt s.contexts[n].spacingTimers b none, nextClosings := setAt s.contexts[n].nextClosings b rest
            due := s.contexts[n].due ++ [{ w with hot := [] }] } })) ∧
    ∀ b timer, s.contexts[n].makeTimers[b] = .running timer →
      (¬ s.Ran timer → exec (.makeTimerExpiry n b) s = .next s) ∧
      (s.Ran timer → (∃ c : BayId, c ≠ b ∧ s.contexts[n].makeTimers[c].Open) →
        exec (.makeTimerExpiry n b) s = .next { s with
          contexts := setAt s.contexts n
            { s.contexts[n] with makeTimers := setAt s.contexts[n].makeTimers b .expired } }) ∧
      (s.Ran timer → (∀ c : BayId, c ≠ b → ¬ s.contexts[n].makeTimers[c].Open) →
        (∀ plan o, s.contexts[n].order = some o → (o.kind = .switch ∨ o.kind = .park) → s.contexts[n].scanPhase = .none →
          s.plans[n] = some plan → 0 < plan.settle →
          exec (.makeTimerExpiry n b) s = .next { s with
            contexts := setAt s.contexts n
              { s.contexts[n] with
              makeTimers := setAt s.contexts[n].makeTimers b .expired, phase := .settle
              settleTimer := some ⟨s.now, plan.settle⟩ } }) ∧
        (s.contexts[n].scanPhase = .stepMake → 0 < s.contexts[n].scanOps.settle →
          exec (.makeTimerExpiry n b) s = .next { s with
            contexts := setAt s.contexts n
              { s.contexts[n] with
              makeTimers := setAt s.contexts[n].makeTimers b .expired, scanPhase := .stepSettle
              settleTimer := some ⟨s.now, s.contexts[n].scanOps.settle⟩ } }))

/-- R103, R104, R105, R31, R76, R108: at the end of SETTLE an order without the VERIFY flag ends OK: its paths are judged on the image and on
the rows they hold, a path judged IDLE gives up its rows and any other keeps them, and RDY rises if the record asks for it; with the
flag the relays of the connect paths and of O are read back, bay by bay, by ascending bay address (the model's choice, log 41). That
R31 judges a path of every role, against the words of R76, is the model's reading (log 53). -/
def Obligations.SettleEndsTheOrder : Prop :=
  ∀ (s : State) (n : SiteId) (timer : Timer) (o : Order), s.contexts[n].settleTimer = some timer → s.contexts[n].order = some o →
    (o.kind = .switch ∨ o.kind = .park) → s.contexts[n].scanPhase = .none →
    (¬ s.Ran timer → exec (.settleTimerExpiry n) s = .next s) ∧
    (s.Ran timer → o.flags.getLsbD 2 = false → NotWaiting s n →
      ∃ t, exec (.settleTimerExpiry n) s = .next t ∧ OrderReported s t n .ok s.contexts[n].acc ∧
        t.rdy[n] = (s.rdy[n] || o.flags.getLsbD 3) ∧
        (s.Quiet → s.arbiter.waiting = [] → s.contexts[n].passed = true → s.contexts[n].unjudged = false →
          PathsJudged s t n)) ∧
    (s.Ran timer → o.flags.getLsbD 2 = true → s.Quiet → ∀ plan, s.plans[n] = some plan →
      (plan.opening ≠ [] ∨ ∃ p ∈ s.contexts[n].connect, s.relaySet p ≠ []) →
      ∃ t, exec (.settleTimerExpiry n) s = .next t ∧
        t = { s with
          contexts := setAt s.contexts n
            { s.contexts[n] with
            settleTimer := none, phase := .verify, verifySet := t.contexts[n].verifySet
            senseDue := t.contexts[n].senseDue } } ∧
        (∀ r : RelayNo, r ∈ t.contexts[n].verifySet ↔
          r ∈ plan.opening ∨ ∃ p ∈ s.contexts[n].connect, r ∈ s.relaySet p) ∧
        ascendingSet t.contexts[n].senseDue ∧
        ∀ b : BayId, b ∈ t.contexts[n].senseDue ↔ ∃ r ∈ t.contexts[n].verifySet, relayBay r = b)

/-! ## Scans -/

/-- R134, R135, R136, R133: at the end of a step's settle RDY rises, the step counts as ready and its advance timer runs; a dwell of 0
advances the step at the rise itself. In AWAIT the dwell, an STP edge or a LENIENT step-wait expiry advances the scan: RDY drops, and the
next step settles at once on a repeated column or opens the old column's relays. An STP edge in DWELL mode, or in any other phase, has no
effect. -/
def Obligations.ScanStepsAdvance : Prop :=
  ∀ (s : State) (n : SiteId), s.Quiet →
    let c := s.contexts[n]
    let ready : State := { s with
      rdy := setAt s.rdy n true
      contexts := setAt s.contexts n
        { c with
          scanPhase := .await, settleTimer := none, stepsReady := c.stepsReady + 1
          advanceTimer := some (Timer.mk s.now <| if c.scanOps.advance = .dwell then c.scanOps.dwell else c.scanOps.stepWait) } }
    (∀ timer, c.settleTimer = some timer → c.scanPhase = .stepSettle → s.Ran timer →
      (c.scanOps.advance = .dwell → 0 < c.scanOps.dwell) → exec (.stepSettleExpiry n) s = .next ready) ∧
    (∀ timer, c.settleTimer = some timer → c.scanPhase = .stepSettle → s.Ran timer → c.scanOps.advance = .dwell →
      c.scanOps.dwell = 0 → exec (.stepSettleExpiry n) s = exec (.dwellExpiry n) ready) ∧
    (c.scanPhase ≠ .await ∨ c.scanOps.advance = .dwell → exec (.stpEdge n) s = .next s) ∧
    ∀ (i : Instr) (old : ColumnId), AdvancesStep s n i → c.column = some old → c.stepIndex + 1 < c.scanOps.count →
      let next := { c with
        advanceTimer := none, stepIndex := c.stepIndex + 1
        stepTimeouts := if i = Instr.stepWaitExpiry n then min (c.stepTimeouts + 1) 65535 else c.stepTimeouts }
      let col := c.scanOps.column (c.stepIndex + 1)
      (col = old → 0 < c.scanOps.settle →
        exec i s = .next
          { s with
            rdy := setAt s.rdy n false
            contexts := setAt s.contexts n
              { next with scanPhase := .stepSettle, settleTimer := some (Timer.mk s.now c.scanOps.settle) } }) ∧
      (col ≠ old → c.order.isSome = true → c.ending = none → s.NoLiveRow → s.link.bays[columnBay col].state = .online →
        s.isRetired (crosspoint c.scanOps.rowId col) = false →
        (columnBay col ≠ columnBay old → s.isRetired (isolation (columnBay col) c.scanOps.rowId) = false) →
        let relays := if columnBay col = columnBay old then [crosspoint c.scanOps.rowId old]
          else [crosspoint c.scanOps.rowId old, isolation (columnBay old) c.scanOps.rowId]
        exec i s = .next
          { s with
            rdy := setAt s.rdy n false
            contexts := setAt s.contexts n
              { next with
                scanPhase := .stepBreak, breakTimers := setAt c.breakTimers (columnBay old) .notStarted
                due := c.due ++ [Wave.mk (columnBay old) false relays (s.breakHold relays) 0 [] .planned] } })

/-- R132, R133, R137, R138, R139, R140: the work of a scan between its advances. At the end of a step's break the current column moves and the
gap runs; at the end of the gap the step's first closing wave is due; at the end of a guard's settle step 0 begins, its checks made
first. An advance into a column whose bay is HELD, not ONLINE, or that would close a RETIRED relay leaves its ending
and the cleanup wave, and so does a LANE_SKIP or a LANE_RESET, in its own way in each phase. A wave that was on the link at an ending is
applied, and the cleanup wave is then formed on that image, also while PARK_ALL or DISABLE winds the orders down. The acknowledgement of
the cleanup wave starts its break hold, or ends an aborted scan (the model's reading, log 39); its NAK or final failure ends a scan that has
taken an ending. After the hold a guard path is disconnected: the opening waves of its CLOSED relays are due, a failed check ends the scan
at index 8, and with none CLOSED, or at the end of that break, the scan ends OK, its paths judged (log 53). -/
def Obligations.ScansSwitchStepByStep : Prop :=
  (∀ (s : State) (n : SiteId) (o : Order), s.Quiet → s.contexts[n].order = some o → o.kind = .scan →
    let c := s.contexts[n]
    let row := c.scanOps.rowId
    let becomes := fun (t : State) (c' : Context) => t = { s with contexts := setAt s.contexts n c' }
    -- the end of a step's break, of a step's gap, and of a guard's settle
    (∀ (b : BayId) (timer : Timer), c.breakTimers[b] = .running timer → s.Ran timer → c.scanPhase = .stepBreak →
      (∀ d : BayId, d ≠ b → ¬ c.breakTimers[d].Open) → 0 < s.cfg.gap.toNat →
      ∃ t, exec (.breakTimerExpiry n b) s = .next t ∧ becomes t { c with
        scanPhase := .stepGap, column := some (c.scanOps.column c.stepIndex), breakTimers := .replicate 8 .absent
        gapTimer := some ⟨s.now, s.cfg.gap.toNat⟩ }) ∧
    (∀ (timer : Timer) (col : ColumnId), c.gapTimer = some timer → s.Ran timer → c.scanPhase = .stepGap → c.column = some col →
      c.ending = none → s.NoLiveRow →
      ∃ t c', exec (.gapTimerExpiry n) s = .next t ∧ becomes t c' ∧
        StepClosingsDue s { c with gapTimer := none } c' row col
          (columnBay (c.scanOps.column (c.stepIndex - 1)) != columnBay col)) ∧
    (∀ timer : Timer, c.settleTimer = some timer → s.Ran timer → c.scanPhase = .guard → c.ending = none →
      let col := c.scanOps.column 0
      let relays := [isolation (columnBay col) row, crosspoint row col]
      ∃ t, exec (.settleTimerExpiry n) s = .next t ∧
        (s.link.bays[columnBay col].state = .online → (∀ x ∈ relays, s.isRetired x = false) → s.NoLiveRow →
          ∃ c', becomes t c' ∧
            StepClosingsDue s { c with settleTimer := none, stepIndex := 0, column := some col } c' row col true) ∧
        (c.column = none → NotWaiting s n → s.inFlight n = false → ∀ code,
          (s.link.bays[columnBay col].state = .held ∧ code = Code.bayHeld ∨
            s.link.bays[columnBay col].state ≠ .held ∧ s.link.bays[columnBay col].state ≠ .online ∧ code = .bayFault ∨
            s.link.bays[columnBay col].state = .online ∧ (∃ x ∈ relays, s.isRetired x = true) ∧ code = .relayRetired) →
          OrderReported s t n code { c.acc with failing := none })) ∧
    -- endings in a step
    (∀ (i : Instr) (old : ColumnId) (code : Code), AdvancesStep s n i → c.column = some old → c.stepIndex + 1 < c.scanOps.count →
      Going s n → c.passed = true → (s.cleanupWave row old).relays ≠ [] →
      let col := c.scanOps.column (c.stepIndex + 1)
      let state := s.link.bays[columnBay col].state
      let retired := s.isRetired (crosspoint row col) = true ∨
        columnBay col ≠ columnBay old ∧ s.isRetired (isolation (columnBay col) row) = true
      col ≠ old →
      (state = .held ∧ code = .bayHeld ∨ state ≠ .held ∧ state ≠ .online ∧ code = .bayFault ∨
        state = .online ∧ retired ∧ code = .relayRetired) →
      ∃ t c', exec i s = .next t ∧ t = { s with rdy := setAt s.rdy n false, contexts := setAt s.contexts n c' } ∧
        CleanupOffered s
          { c with
            stepIndex := c.stepIndex + 1
            stepTimeouts := if i = Instr.stepWaitExpiry n then min (c.stepTimeouts + 1) 65535 else c.stepTimeouts }
          c' code old) ∧
    (∀ (a : BitVec 16) (i : Instr) (d : Deferred), a.toNat = n.val →
      (i = .laneSkip a ∧ d = s.lanes[siteLane n].deferred ∨ i = .laneReset a ∧ d = .reset) → s.host.device = .enabled →
      s.lanes[siteLane n].state = .running → s.lanes[siteLane n].access = none → s.inFlight n = false → c.passed = true →
      ∃ t, exec i s = .next t ∧ NotWaiting t n ∧ ScanAborted s t n false ∧ t.lanes[siteLane n].deferred = d ∧
        (t.contexts[n].order = some o → t.rdy = s.rdy ∧ t.paths = s.paths ∧
          t.lanes = setAt s.lanes (siteLane n) { s.lanes[siteLane n] with deferred := d })) ∧
    -- the guard's disconnection
    (∀ (timer : Timer) (g : PathId), c.cleanupHold = some timer → s.Ran timer → c.ending = none → c.connect = [g] →
      c.disconnect = [] → c.due = [] → s.inFlight n = false → NotWaiting s n → s.NoLiveRow →
      (∀ b : BayId, c.breakTimers[b] = .absent) →
      ∀ opening, ascendingSet opening → (∀ x, x ∈ opening ↔ x ∈ s.relaySet g ∧ x ∈ s.image.closed) →
      ∃ t, exec (.cleanupBreakHoldExpiry n) s = .next t ∧
        (opening = [] → OrderReported s t n .ok c.acc) ∧
        ((∃ x ∈ opening, s.link.bays[relayBay x].state ≠ .online) →
          OrderReported s t n .bayUnavailable { c.acc with failing := some 8 }) ∧
        (opening ≠ [] → (∀ x ∈ opening, s.link.bays[relayBay x].state = .online) →
          t.contexts[n] = { c with
            cleanupHold := none, scanPhase := .guardOff, due := s.openingWaves opening
            breakTimers := t.contexts[n].breakTimers } ∧
          (∀ b : BayId, t.contexts[n].breakTimers[b] = if ∃ x ∈ opening, relayBay x = b then PhaseTimer.notStarted else .absent) ∧
          t.lanes = s.lanes ∧ t.paths = s.paths ∧ t.arbiter = s.arbiter ∧ t.rdy = s.rdy)) ∧
    ∀ (b : BayId) (timer : Timer), c.breakTimers[b] = .running timer → s.Ran timer → c.scanPhase = .guardOff →
      (∀ d : BayId, d ≠ b → ¬ c.breakTimers[d].Open) → NotWaiting s n →
      ∃ t, exec (.breakTimerExpiry n b) s = .next t ∧ OrderReported s t n .ok c.acc ∧
        (s.arbiter.waiting = [] → c.passed = true → c.unjudged = false → PathsJudged s t n ∧
          ∀ r : RowId, s.arbiter.holders[r] = .scan n → t.arbiter.holders[r] = .free)) ∧
  -- the frame of a scan that goes on or has taken an ending, also while PARK_ALL or DISABLE winds the orders down
  ∀ (s : State) (n : SiteId) (f : LinkFrame) (w : Wave) (words : List (Nat × Byte)), s.arbiter.walkOwed = false →
    s.host.passage = .idle ∨ s.host.passage = .aborting → s.link.frame = some f → f.body = .wave w words → f.owner = .context n →
    s.link.bays[w.bay].state = .online →
    let c := s.contexts[n]
    let attended := s.host.passage = .idle ∨ s.lanes[siteLane n].state = .running
    (w.source = .cleanup → c.scanPhase = .cleanup → c.due = [] →
      (∃ t, exec .waveAck s = .next t ∧
        (attended → c.abortTaken = false → 0 < w.span → t.contexts[n] = { c with
          acc := countedAcc s t c.acc w
          cleanupHold := some ⟨s.now, w.span⟩ }) ∧
        ∀ code, c.abortTaken = true → c.ending = some code → NotWaiting s n →
          OrderReported s t n code (countedAcc s t c.acc w) ∧ (code ≠ .ok → t.rdy[n] = false)) ∧
      ∀ code, c.ending = some code → c.abortTaken = true ∨ c.cleanupHold = none → NotWaiting s n →
        ∀ i, ((∃ reasons, i = .waveNak reasons) ∨ f.repeated = true ∧ ∃ fault, i = .frameFinalFailure fault) →
          ∃ t, exec i s = .next t ∧ OrderReported s t n code c.acc ∧ (code ≠ .ok → t.rdy[n] = false)) ∧
    (w.source = .planned → f.bay = w.bay → (∀ r ∈ w.relays, relayBay r = w.bay) → c.scanPhase.AtWork → c.passed = true → NotWaiting s n →
      ∀ code old, c.ending = some code → c.column = some old →
        let cleans := fun (t : State) (acc : Accumulators) =>
          let wave := ({ s with image := t.image } : State).cleanupWave c.scanOps.rowId old
          (attended → wave.relays ≠ [] → t.contexts[n] = { c with acc := acc, scanPhase := .cleanup, due := [wave] }) ∧
            (wave.relays = [] → OrderReported s t n code acc ∧ (code ≠ .ok → t.rdy[n] = false))
        (∃ t, exec .waveAck s = .next t ∧ cleans t (countedAcc s t c.acc w) ∧
          ∀ r : RelayNo, r ∈ t.image.closed ↔ r ∈ w.relays ∧ w.closing = true ∨ r ∈ s.image.closed ∧ r ∉ w.relays) ∧
        ∀ i, ((∃ reasons, i = .waveNak reasons) ∨ f.repeated = true ∧ ∃ fault, i = .frameFinalFailure fault) →
          ∃ t, exec i s = .next t ∧ cleans t c.acc ∧
            ∀ r : RelayNo, r ∈ t.image.closed ↔ r ∈ s.image.closed ∧ relayBay r ≠ w.bay)

/-- R136, R138, R139, R74: the advance from the last step and a STRICT step-wait expiry both lead to the cleanup wave, which opens what the
scan has closed; the second leaves the ending STEP_TIMEOUT, and a scan with nothing CLOSED then ends at once. After the cleanup
wave's break hold the scan ends with the code it has taken, or OK, and gives up its row. -/
def Obligations.ScanEndsThroughCleanup : Prop :=
  ∀ (s : State) (n : SiteId),
    let c := s.contexts[n]
    (∀ (i : Instr) (old : ColumnId), s.Quiet → AdvancesStep s n i → c.column = some old → c.scanOps.count ≤ c.stepIndex + 1 →
      (s.cleanupWave c.scanOps.rowId old).relays ≠ [] →
      exec i s = .next
        { s with
          rdy := setAt s.rdy n false
          contexts := setAt s.contexts n
            { c with
              advanceTimer := none, scanPhase := .cleanup, due := [s.cleanupWave c.scanOps.rowId old]
              stepTimeouts := if i = Instr.stepWaitExpiry n then min (c.stepTimeouts + 1) 65535 else c.stepTimeouts } }) ∧
    (∀ (timer : Timer) (old : ColumnId), c.advanceTimer = some timer → c.scanPhase = .await → c.scanOps.advance = .strict →
      c.column = some old → c.passed = true → Going s n →
      (¬ s.Ran timer → exec (.stepWaitExpiry n) s = .next s) ∧
      (s.Ran timer → s.Quiet → (s.cleanupWave c.scanOps.rowId old).relays ≠ [] →
        ∃ t, exec (.stepWaitExpiry n) s = .next t ∧ t.contexts[n].ending = some .stepTimeout ∧
          t.contexts[n].scanPhase = .cleanup ∧ t.contexts[n].due = [s.cleanupWave c.scanOps.rowId old] ∧
          t.contexts[n].stepTimeouts = c.stepTimeouts ∧ t.contexts[n].acc = { c.acc with failing := none } ∧
          t = { s with contexts := setAt s.contexts n t.contexts[n] }) ∧
      (s.Ran timer → (s.cleanupWave c.scanOps.rowId old).relays = [] → NotWaiting s n →
        ∃ t, exec (.stepWaitExpiry n) s = .next t ∧ OrderReported s t n .stepTimeout { c.acc with failing := none })) ∧
    ∀ timer, c.cleanupHold = some timer →
      (¬ s.Ran timer → exec (.cleanupBreakHoldExpiry n) s = .next s) ∧
      (s.Ran timer → NotWaiting s n → ∀ code, (c.ending = some code ∨ c.ending = none ∧ c.connect = [] ∧ code = .ok) →
        ∃ t, exec (.cleanupBreakHoldExpiry n) s = .next t ∧ OrderReported s t n code c.acc ∧
          (s.Quiet → s.arbiter.waiting = [] → c.unjudged = false →
            ∀ r : RowId, s.arbiter.holders[r] = .scan n → t.arbiter.holders[r] = .free))

/-! ## The planner and the claim arbiter -/

/-- R87, R88, R2, R89, R90: every bay with an opening has one opening wave, of all its openings, with the largest release and bounce time of
them as its break hold. The closing waves of a bay hold its closings, the isolation relays first and then the crosspoints; every wave
but the last holds as many relays as the wave limit, 1 to 64, and each carries its largest operate time and the bay's make bounce. The
planned time is the largest break, the gap where something opens and something closes, the largest make of a bay, and the settle. -/
def Obligations.ClosingsArePackedIntoWaves : Prop :=
  ∀ (s : State) (b : BayId) (opening closing : List RelayNo) (settle : Nat),
    let relays := sendOrder (inBay b closing)
    let waves := s.closingWaves b relays
    let limit := s.waveLimit b
    let breakTime := fun x : RelayNo => (s.relayTimes x).release.toNat + (s.relayTimes x).bounce.toNat
    let bounceTime := fun x : RelayNo => (s.relayTimes x).bounce.toNat
    limit = max 1 (min 64 s.cfg.bays[b].waveLimit.toNat) ∧ waves.length = (relays.length + limit - 1) / limit ∧
      waves.flatMap Wave.relays =
        (closing.filter fun n => relayBay n == b && decide (1024 ≤ relayIndex n)) ++
          (closing.filter fun n => relayBay n == b && decide (relayIndex n < 1024)) ∧
      (∀ i w, waves[i]? = some w → i + 1 < waves.length → w.relays.length = limit) ∧
      (∀ w ∈ waves, 1 ≤ w.relays.length ∧ w.relays.length ≤ limit ∧ w.bay = b ∧ w.closing = true) ∧
      (∀ w ∈ waves, w.bounce = largest (relays.map bounceTime) ∧
        w.span = largest (w.relays.map fun n => (s.relayTimes n).operate.toNat)) ∧
      ((s.openingWaves opening).map Wave.bay).Pairwise (· < ·) ∧
      (∀ x ∈ opening, ∃ w ∈ s.openingWaves opening, x ∈ w.relays) ∧
      (∀ w ∈ s.openingWaves opening, w.closing = false ∧ w.source = .planned ∧ w.hot = [] ∧ w.relays ≠ [] ∧
        (w.relays = opening.filter fun x => relayBay x == w.bay) ∧ w.span = largest (w.relays.map breakTime)) ∧
      s.plannedTime opening closing settle =
        largest (opening.map breakTime) + (if opening = [] ∨ closing = [] then 0 else s.cfg.gap.toNat) +
          largest ((List.finRange 8).map fun d : BayId =>
            ((s.closingWaves d (sendOrder (inBay d closing))).map Wave.span).sum +
              largest ((closing.filter fun x => relayBay x == d).map bounceTime)) +
          settle

/-- R70, R68: a walk grants an entry exactly when every row of it is FREE and no older entry wants one of them, but for the rows of a granted
entry that take no holder; the others wait on in their order. The rows of the granted entries take their holders, and no other row
changes. -/
def Obligations.WalkServesTheOldestFirst : Prop :=
  ∀ s : State, ∃ granted : Nat → Bool,
    (∀ i e, s.arbiter.waiting[i]? = some e →
      (granted i = true ↔ ∀ r ∈ e.rows, s.arbiter.holders[r] = .free ∧
        ∀ j e', j < i → s.arbiter.waiting[j]? = some e' → r ∈ e'.rows → granted j = true ∧ s.grantee e'.lane r = .free)) ∧
    s.walk.1.arbiter.waiting = (s.arbiter.waiting.zipIdx.filter fun x => !granted x.2).map Prod.fst ∧
    s.walk.2 = ((s.arbiter.waiting.zipIdx.filter fun x => granted x.2).map fun x => x.1.lane) ∧
    (∀ r : RowId, (∀ i e, s.arbiter.waiting[i]? = some e → granted i = true → r ∉ e.rows) →
      s.walk.1.arbiter.holders[r] = s.arbiter.holders[r]) ∧
    (∀ (r : RowId) i e, s.arbiter.waiting[i]? = some e → granted i = true → r ∈ e.rows →
      ∃ j e', s.arbiter.waiting[j]? = some e' ∧ granted j = true ∧ r ∈ e'.rows ∧
        s.walk.1.arbiter.holders[r] = s.grantee e'.lane r) ∧
    s.walk.1 = { s with arbiter := { s.walk.1.arbiter with walkOwed := false } }

/-! ## The laws that every command keeps -/

/-- R18, R10, R143, R153, R154, R37, R148, R19, R63, R69: the state after reset is sound. -/
def Obligations.ResetIsSound : Prop :=
  State.reset.ImageSound ∧ State.reset.WearSound ∧ State.reset.MarksSound ∧ State.reset.LanesSound ∧ State.reset.ContextsSound ∧
    State.reset.PathsSound ∧ State.reset.ClaimsSound

/-- R18, R10, R13: every relay of a bay that is not ONLINE is OPEN and its busy window is CLEAR, after every step. -/
def Obligations.ClosedRelaysAreInOnlineBays : Prop :=
  ∀ s t : State, s.ImageSound → step s = .next t → t.ImageSound

/-- R10, R11, R13, R16, R18: over every command, a relay becomes CLOSED only by the acknowledgement of a closing wave that holds it, in an
ONLINE bay, and OPEN only by the acknowledgement of an opening wave that holds it or with its bay in a state other than ONLINE. -/
def Obligations.RelaysMoveByWavesAlone : Prop :=
  ∀ (s t : State) (i : Instr) (x : RelayNo), exec i s = .next t →
    let acked := fun closing => i = .waveAck ∧ s.link.bays[relayBay x].state = .online ∧
      ∃ f w words, s.link.frame = some f ∧ f.body = .wave w words ∧ w.closing = closing ∧ x ∈ w.relays ∧ w.bay = relayBay x
    (x ∉ s.image.closed → x ∈ t.image.closed → acked true) ∧
      (x ∈ s.image.closed → x ∉ t.image.closed → acked false ∨ t.link.bays[relayBay x].state ≠ .online)

/-- R154: after every step a relay carries the WORN and RETIRED marks exactly as its counter and the thresholds of its type
have it; a relay of a bay that is not expected has no type, and carries neither mark (the model's reading, log 16). -/
def Obligations.MarksFollowTheCounters : Prop :=
  ∀ s t : State, s.WearSound → s.MarksSound → step s = .next t → t.WearSound ∧ t.MarksSound

/-- R153: a counter decreases only through WEAR_CLEAR, WEAR_LOAD, the load at ENABLE or a reset, and never exceeds 4,294,967,295. -/
def Obligations.WearNeverDecreases : Prop :=
  ∀ (s t : State) (i : Instr), s.WearSound → exec i s = .next t →
    (∀ n : RelayNo, t.wearOf n ≤ 4294967295) ∧ (s.mayLowerWear i = false → ∀ n : RelayNo, s.wearOf n ≤ t.wearOf n)

/-- R37, R45, R46, R131, R148: the halt reason, the poll timer, the counts and the mismatch list of every lane and context stay within their
bounds, after every step. -/
def Obligations.LanesAndContextsStaySound : Prop :=
  ∀ s t : State, s.LanesSound → s.ContextsSound → step s = .next t → t.LanesSound ∧ t.ContextsSound

/-- R19, R20, R35, R36, R61, R63, R69, R71, R96: over every step, a row that a path holds stays in that path's row set, and the path PENDING,
ACTIVE or BROKEN; the paths that an order in flight named stay PENDING paths of its site; the waiting list keeps at most one entry per
lane, each of a RUNNING lane that has not reported its order's end; every release is walked in its own event. Over every command, the
waiting list keeps its order and takes in at most the claim of an order that has just begun, at its young end; and outside the resets
and the end of ENABLE's wear load the definition of a PENDING, ACTIVE or BROKEN path stands. -/
def Obligations.PathsAndClaimsStaySound : Prop :=
  (∀ s t : State, s.PathsSound → s.ClaimsSound → step s = .next t → t.PathsSound ∧ t.ClaimsSound) ∧
  (∀ (s t : State) (i : Instr), exec i s = .next t →
    ∃ claims : List WaitEntry, claims.length ≤ 1 ∧ t.arbiter.waiting.Sublist (s.arbiter.waiting ++ claims) ∧
      ∀ e ∈ claims, e.enqueued = s.now ∧ ∃ m, i = .takenWriteDone (siteLane e.lane) m true) ∧
  ∀ (s t : State) (i : Instr) (p : PathId), exec i s = .next t → isReset i = false → s.host.passage ≠ .wearLoad 519 →
    (s.paths[p].state = .pending ∨ s.Connected p) →
    t.paths[p].crosspoints = s.paths[p].crosspoints ∧ t.paths[p].rowSet = s.paths[p].rowSet ∧
      t.paths[p].site = s.paths[p].site ∧ t.paths[p].policy = s.paths[p].policy ∧
      t.paths[p].extraSettle = s.paths[p].extraSettle

/-- R62, R49, R51: a lane writes TAKEN only once the result of the order start has been written, and a final state only once the result of
the order's end has been written; both go to the state of the held record. -/
def Obligations.StatesFollowResults : Prop :=
  ∀ (s t : State) (i : Instr) (n : LaneId) (x : LaneAccess), exec i s = .next t → t.lanes[n].access = some x →
    s.lanes[n].access ≠ some x →
    (x.op = .taken → x.access.req = .write s.lanes[n].record [2] ∧
      ∃ m, s.lanes[n].access = some { op := .startResult, access := m } ∧ i = .startResultWriteDone n m.tag true) ∧
    (x.op = .finalState → x.access.req = .write s.lanes[n].record [s.lanes[n].final.toByte] ∧
      ∃ m, s.lanes[n].access = some { op := .endResult, access := m } ∧ i = .endResultWriteDone n m.tag true)

/-- R9, R38, R60, R154, R174, R176: a cause that is set stands until a read of CAUSE or a reset clears it. Outside ENABLE, the end of DISABLE
and the resets the configuration copies, the thresholds, the live enables and the lane descriptors do not change, in PARK_ALL as at any
other time. -/
def Obligations.CausesAndCopiesStand : Prop :=
  (∀ (s t : State) (i : Instr) (k : Nat), exec i s = .next t → isReset i = false → (∀ bytes, i ≠ .causeRead bytes) →
    s.host.cause.getLsbD k = true → t.host.cause.getLsbD k = true) ∧
  ∀ (s t : State) (i : Instr), s.host.passage ≠ .configRead → s.host.passage ≠ .discovery →
    (∀ j, s.host.passage ≠ .wearLoad j) → s.host.passage ≠ .disableSave 519 → s.link.discovery.stage = .inactive →
    isReset i = false → exec i s = .next t →
    t.cfg = s.cfg ∧ t.health.thresholds = s.health.thresholds ∧ t.live.enable = s.live.enable ∧
      ∀ n : LaneId, t.lanes[n].desc = s.lanes[n].desc

end
end

