-- ==== Sys2Proof/Laws/State.lean ====
section
/-! SUPPORT. The updates of the state, field by field: what each one leaves as it was, and what it writes. -/

namespace Sys2Proof.Machine

variable {α β : Type} {k : Nat} (s : State)

/-! ## Indexed state -/

@[simp] theorem setAt_getElem (v : Vector α k) (i j : Fin k) (x : α) : (setAt v i x)[j] = if i = j then x else v[j] := by
  simp [setAt, Vector.getElem_set, Fin.ext_iff]

@[simp] theorem modAt_getElem (v : Vector α k) (i j : Fin k) (f : α → α) :
    (modAt v i f)[j] = if i = j then f v[j] else v[j] := by
  unfold modAt
  rw [setAt_getElem]
  by_cases h : i = j
  · subst h; simp
  · simp [h]

@[simp] theorem mapAt_getElem (v : Vector α k) (f : Fin k → α → α) (j : Fin k) : (mapAt v f)[j] = f j v[j] := by
  simp [mapAt]

/-- The same with the index as a number, the form in which `simp` writes a `Fin` index. -/
@[simp] theorem setAt_getElem_val (v : Vector α k) (i j : Fin k) (x : α) :
    (setAt v i x)[j.val] = if i = j then x else v[j.val] := setAt_getElem v i j x

@[simp] theorem modAt_getElem_val (v : Vector α k) (i j : Fin k) (f : α → α) :
    (modAt v i f)[j.val] = if i = j then f v[j.val] else v[j.val] := modAt_getElem v i j f

@[simp] theorem mapAt_getElem_val (v : Vector α k) (f : Fin k → α → α) (j : Fin k) : (mapAt v f)[j.val] = f j v[j.val] :=
  mapAt_getElem v f j

theorem allAt_iff (v : Vector α k) (p : α → Bool) : allAt v p = true ↔ ∀ i : Fin k, p v[i] = true := by
  simp [allAt]

/-- Two vectors with the same entries are equal. -/
theorem vector_ext {v w : Vector α k} (h : ∀ i : Fin k, v[i] = w[i]) : v = w := by
  apply Vector.ext
  intro i hi
  exact h ⟨i, hi⟩

/-! ## Fields that an update leaves as they were -/

@[simp] theorem State.modLane_host (n : LaneId) (f : Lane → Lane) : (s.modLane n f).host = s.host := rfl
@[simp] theorem State.modLane_cfg (n : LaneId) (f : Lane → Lane) : (s.modLane n f).cfg = s.cfg := rfl
@[simp] theorem State.modLane_image (n : LaneId) (f : Lane → Lane) : (s.modLane n f).image = s.image := rfl
@[simp] theorem State.modLane_health (n : LaneId) (f : Lane → Lane) : (s.modLane n f).health = s.health := rfl
@[simp] theorem State.modLane_live (n : LaneId) (f : Lane → Lane) : (s.modLane n f).live = s.live := rfl
@[simp] theorem State.modLane_paths (n : LaneId) (f : Lane → Lane) : (s.modLane n f).paths = s.paths := rfl
@[simp] theorem State.modLane_arbiter (n : LaneId) (f : Lane → Lane) : (s.modLane n f).arbiter = s.arbiter := rfl
@[simp] theorem State.modLane_plans (n : LaneId) (f : Lane → Lane) : (s.modLane n f).plans = s.plans := rfl
@[simp] theorem State.modLane_contexts (n : LaneId) (f : Lane → Lane) : (s.modLane n f).contexts = s.contexts := rfl
@[simp] theorem State.modLane_rdy (n : LaneId) (f : Lane → Lane) : (s.modLane n f).rdy = s.rdy := rfl
@[simp] theorem State.modLane_service (n : LaneId) (f : Lane → Lane) : (s.modLane n f).service = s.service := rfl
@[simp] theorem State.modLane_link (n : LaneId) (f : Lane → Lane) : (s.modLane n f).link = s.link := rfl
@[simp] theorem State.modLane_now (n : LaneId) (f : Lane → Lane) : (s.modLane n f).now = s.now := rfl
@[simp] theorem State.modLane_nextTag (n : LaneId) (f : Lane → Lane) : (s.modLane n f).nextTag = s.nextTag := rfl
@[simp] theorem State.modLane_pending (n : LaneId) (f : Lane → Lane) : (s.modLane n f).pending = s.pending := rfl

@[simp] theorem State.modContext_host (n : SiteId) (f : Context → Context) : (s.modContext n f).host = s.host := rfl
@[simp] theorem State.modContext_cfg (n : SiteId) (f : Context → Context) : (s.modContext n f).cfg = s.cfg := rfl
@[simp] theorem State.modContext_image (n : SiteId) (f : Context → Context) : (s.modContext n f).image = s.image := rfl
@[simp] theorem State.modContext_health (n : SiteId) (f : Context → Context) : (s.modContext n f).health = s.health := rfl
@[simp] theorem State.modContext_live (n : SiteId) (f : Context → Context) : (s.modContext n f).live = s.live := rfl
@[simp] theorem State.modContext_paths (n : SiteId) (f : Context → Context) : (s.modContext n f).paths = s.paths := rfl
@[simp] theorem State.modContext_arbiter (n : SiteId) (f : Context → Context) : (s.modContext n f).arbiter = s.arbiter := rfl
@[simp] theorem State.modContext_plans (n : SiteId) (f : Context → Context) : (s.modContext n f).plans = s.plans := rfl
@[simp] theorem State.modContext_rdy (n : SiteId) (f : Context → Context) : (s.modContext n f).rdy = s.rdy := rfl
@[simp] theorem State.modContext_lanes (n : SiteId) (f : Context → Context) : (s.modContext n f).lanes = s.lanes := rfl
@[simp] theorem State.modContext_service (n : SiteId) (f : Context → Context) : (s.modContext n f).service = s.service := rfl
@[simp] theorem State.modContext_link (n : SiteId) (f : Context → Context) : (s.modContext n f).link = s.link := rfl
@[simp] theorem State.modContext_now (n : SiteId) (f : Context → Context) : (s.modContext n f).now = s.now := rfl
@[simp] theorem State.modContext_nextTag (n : SiteId) (f : Context → Context) : (s.modContext n f).nextTag = s.nextTag := rfl
@[simp] theorem State.modContext_pending (n : SiteId) (f : Context → Context) : (s.modContext n f).pending = s.pending := rfl

@[simp] theorem State.modBay_host (b : BayId) (f : Bay → Bay) : (s.modBay b f).host = s.host := rfl
@[simp] theorem State.modBay_cfg (b : BayId) (f : Bay → Bay) : (s.modBay b f).cfg = s.cfg := rfl
@[simp] theorem State.modBay_image (b : BayId) (f : Bay → Bay) : (s.modBay b f).image = s.image := rfl
@[simp] theorem State.modBay_health (b : BayId) (f : Bay → Bay) : (s.modBay b f).health = s.health := rfl
@[simp] theorem State.modBay_live (b : BayId) (f : Bay → Bay) : (s.modBay b f).live = s.live := rfl
@[simp] theorem State.modBay_paths (b : BayId) (f : Bay → Bay) : (s.modBay b f).paths = s.paths := rfl
@[simp] theorem State.modBay_arbiter (b : BayId) (f : Bay → Bay) : (s.modBay b f).arbiter = s.arbiter := rfl
@[simp] theorem State.modBay_plans (b : BayId) (f : Bay → Bay) : (s.modBay b f).plans = s.plans := rfl
@[simp] theorem State.modBay_contexts (b : BayId) (f : Bay → Bay) : (s.modBay b f).contexts = s.contexts := rfl
@[simp] theorem State.modBay_rdy (b : BayId) (f : Bay → Bay) : (s.modBay b f).rdy = s.rdy := rfl
@[simp] theorem State.modBay_lanes (b : BayId) (f : Bay → Bay) : (s.modBay b f).lanes = s.lanes := rfl
@[simp] theorem State.modBay_service (b : BayId) (f : Bay → Bay) : (s.modBay b f).service = s.service := rfl
@[simp] theorem State.modBay_now (b : BayId) (f : Bay → Bay) : (s.modBay b f).now = s.now := rfl
@[simp] theorem State.modBay_nextTag (b : BayId) (f : Bay → Bay) : (s.modBay b f).nextTag = s.nextTag := rfl
@[simp] theorem State.modBay_pending (b : BayId) (f : Bay → Bay) : (s.modBay b f).pending = s.pending := rfl

@[simp] theorem State.modPath_host (p : PathId) (f : PathEntry → PathEntry) : (s.modPath p f).host = s.host := rfl
@[simp] theorem State.modPath_cfg (p : PathId) (f : PathEntry → PathEntry) : (s.modPath p f).cfg = s.cfg := rfl
@[simp] theorem State.modPath_image (p : PathId) (f : PathEntry → PathEntry) : (s.modPath p f).image = s.image := rfl
@[simp] theorem State.modPath_health (p : PathId) (f : PathEntry → PathEntry) : (s.modPath p f).health = s.health := rfl
@[simp] theorem State.modPath_live (p : PathId) (f : PathEntry → PathEntry) : (s.modPath p f).live = s.live := rfl
@[simp] theorem State.modPath_arbiter (p : PathId) (f : PathEntry → PathEntry) : (s.modPath p f).arbiter = s.arbiter := rfl
@[simp] theorem State.modPath_plans (p : PathId) (f : PathEntry → PathEntry) : (s.modPath p f).plans = s.plans := rfl
@[simp] theorem State.modPath_contexts (p : PathId) (f : PathEntry → PathEntry) : (s.modPath p f).contexts = s.contexts := rfl
@[simp] theorem State.modPath_rdy (p : PathId) (f : PathEntry → PathEntry) : (s.modPath p f).rdy = s.rdy := rfl
@[simp] theorem State.modPath_lanes (p : PathId) (f : PathEntry → PathEntry) : (s.modPath p f).lanes = s.lanes := rfl
@[simp] theorem State.modPath_service (p : PathId) (f : PathEntry → PathEntry) : (s.modPath p f).service = s.service := rfl
@[simp] theorem State.modPath_link (p : PathId) (f : PathEntry → PathEntry) : (s.modPath p f).link = s.link := rfl
@[simp] theorem State.modPath_now (p : PathId) (f : PathEntry → PathEntry) : (s.modPath p f).now = s.now := rfl
@[simp] theorem State.modPath_nextTag (p : PathId) (f : PathEntry → PathEntry) : (s.modPath p f).nextTag = s.nextTag := rfl
@[simp] theorem State.modPath_pending (p : PathId) (f : PathEntry → PathEntry) : (s.modPath p f).pending = s.pending := rfl

@[simp] theorem State.setRdy_host (n : SiteId) (l : Bool) : (s.setRdy n l).host = s.host := rfl
@[simp] theorem State.setRdy_cfg (n : SiteId) (l : Bool) : (s.setRdy n l).cfg = s.cfg := rfl
@[simp] theorem State.setRdy_image (n : SiteId) (l : Bool) : (s.setRdy n l).image = s.image := rfl
@[simp] theorem State.setRdy_health (n : SiteId) (l : Bool) : (s.setRdy n l).health = s.health := rfl
@[simp] theorem State.setRdy_live (n : SiteId) (l : Bool) : (s.setRdy n l).live = s.live := rfl
@[simp] theorem State.setRdy_paths (n : SiteId) (l : Bool) : (s.setRdy n l).paths = s.paths := rfl
@[simp] theorem State.setRdy_arbiter (n : SiteId) (l : Bool) : (s.setRdy n l).arbiter = s.arbiter := rfl
@[simp] theorem State.setRdy_plans (n : SiteId) (l : Bool) : (s.setRdy n l).plans = s.plans := rfl
@[simp] theorem State.setRdy_contexts (n : SiteId) (l : Bool) : (s.setRdy n l).contexts = s.contexts := rfl
@[simp] theorem State.setRdy_lanes (n : SiteId) (l : Bool) : (s.setRdy n l).lanes = s.lanes := rfl
@[simp] theorem State.setRdy_service (n : SiteId) (l : Bool) : (s.setRdy n l).service = s.service := rfl
@[simp] theorem State.setRdy_link (n : SiteId) (l : Bool) : (s.setRdy n l).link = s.link := rfl
@[simp] theorem State.setRdy_now (n : SiteId) (l : Bool) : (s.setRdy n l).now = s.now := rfl
@[simp] theorem State.setRdy_nextTag (n : SiteId) (l : Bool) : (s.setRdy n l).nextTag = s.nextTag := rfl
@[simp] theorem State.setRdy_pending (n : SiteId) (l : Bool) : (s.setRdy n l).pending = s.pending := rfl

@[simp] theorem State.setPlan_host (n : SiteId) (p : Option Plan) : (s.setPlan n p).host = s.host := rfl
@[simp] theorem State.setPlan_cfg (n : SiteId) (p : Option Plan) : (s.setPlan n p).cfg = s.cfg := rfl
@[simp] theorem State.setPlan_image (n : SiteId) (p : Option Plan) : (s.setPlan n p).image = s.image := rfl
@[simp] theorem State.setPlan_health (n : SiteId) (p : Option Plan) : (s.setPlan n p).health = s.health := rfl
@[simp] theorem State.setPlan_live (n : SiteId) (p : Option Plan) : (s.setPlan n p).live = s.live := rfl
@[simp] theorem State.setPlan_paths (n : SiteId) (p : Option Plan) : (s.setPlan n p).paths = s.paths := rfl
@[simp] theorem State.setPlan_arbiter (n : SiteId) (p : Option Plan) : (s.setPlan n p).arbiter = s.arbiter := rfl
@[simp] theorem State.setPlan_contexts (n : SiteId) (p : Option Plan) : (s.setPlan n p).contexts = s.contexts := rfl
@[simp] theorem State.setPlan_rdy (n : SiteId) (p : Option Plan) : (s.setPlan n p).rdy = s.rdy := rfl
@[simp] theorem State.setPlan_lanes (n : SiteId) (p : Option Plan) : (s.setPlan n p).lanes = s.lanes := rfl
@[simp] theorem State.setPlan_service (n : SiteId) (p : Option Plan) : (s.setPlan n p).service = s.service := rfl
@[simp] theorem State.setPlan_link (n : SiteId) (p : Option Plan) : (s.setPlan n p).link = s.link := rfl
@[simp] theorem State.setPlan_now (n : SiteId) (p : Option Plan) : (s.setPlan n p).now = s.now := rfl
@[simp] theorem State.setPlan_nextTag (n : SiteId) (p : Option Plan) : (s.setPlan n p).nextTag = s.nextTag := rfl
@[simp] theorem State.setPlan_pending (n : SiteId) (p : Option Plan) : (s.setPlan n p).pending = s.pending := rfl

@[simp] theorem State.raise_cfg (c : BitVec 7) : (s.raise c).cfg = s.cfg := rfl
@[simp] theorem State.raise_image (c : BitVec 7) : (s.raise c).image = s.image := rfl
@[simp] theorem State.raise_health (c : BitVec 7) : (s.raise c).health = s.health := rfl
@[simp] theorem State.raise_live (c : BitVec 7) : (s.raise c).live = s.live := rfl
@[simp] theorem State.raise_paths (c : BitVec 7) : (s.raise c).paths = s.paths := rfl
@[simp] theorem State.raise_arbiter (c : BitVec 7) : (s.raise c).arbiter = s.arbiter := rfl
@[simp] theorem State.raise_plans (c : BitVec 7) : (s.raise c).plans = s.plans := rfl
@[simp] theorem State.raise_contexts (c : BitVec 7) : (s.raise c).contexts = s.contexts := rfl
@[simp] theorem State.raise_rdy (c : BitVec 7) : (s.raise c).rdy = s.rdy := rfl
@[simp] theorem State.raise_lanes (c : BitVec 7) : (s.raise c).lanes = s.lanes := rfl
@[simp] theorem State.raise_service (c : BitVec 7) : (s.raise c).service = s.service := rfl
@[simp] theorem State.raise_link (c : BitVec 7) : (s.raise c).link = s.link := rfl
@[simp] theorem State.raise_now (c : BitVec 7) : (s.raise c).now = s.now := rfl
@[simp] theorem State.raise_nextTag (c : BitVec 7) : (s.raise c).nextTag = s.nextTag := rfl
@[simp] theorem State.raise_pending (c : BitVec 7) : (s.raise c).pending = s.pending := rfl

@[simp] theorem State.refuse_cfg : s.refuse.cfg = s.cfg := rfl
@[simp] theorem State.refuse_image : s.refuse.image = s.image := rfl
@[simp] theorem State.refuse_health : s.refuse.health = s.health := rfl
@[simp] theorem State.refuse_live : s.refuse.live = s.live := rfl
@[simp] theorem State.refuse_paths : s.refuse.paths = s.paths := rfl
@[simp] theorem State.refuse_arbiter : s.refuse.arbiter = s.arbiter := rfl
@[simp] theorem State.refuse_plans : s.refuse.plans = s.plans := rfl
@[simp] theorem State.refuse_contexts : s.refuse.contexts = s.contexts := rfl
@[simp] theorem State.refuse_rdy : s.refuse.rdy = s.rdy := rfl
@[simp] theorem State.refuse_lanes : s.refuse.lanes = s.lanes := rfl
@[simp] theorem State.refuse_service : s.refuse.service = s.service := rfl
@[simp] theorem State.refuse_link : s.refuse.link = s.link := rfl
@[simp] theorem State.refuse_now : s.refuse.now = s.now := rfl
@[simp] theorem State.refuse_nextTag : s.refuse.nextTag = s.nextTag := rfl
@[simp] theorem State.refuse_pending : s.refuse.pending = s.pending := rfl

@[simp] theorem State.accept_cfg : s.accept.cfg = s.cfg := rfl
@[simp] theorem State.accept_image : s.accept.image = s.image := rfl
@[simp] theorem State.accept_health : s.accept.health = s.health := rfl
@[simp] theorem State.accept_live : s.accept.live = s.live := rfl
@[simp] theorem State.accept_paths : s.accept.paths = s.paths := rfl
@[simp] theorem State.accept_arbiter : s.accept.arbiter = s.arbiter := rfl
@[simp] theorem State.accept_plans : s.accept.plans = s.plans := rfl
@[simp] theorem State.accept_contexts : s.accept.contexts = s.contexts := rfl
@[simp] theorem State.accept_rdy : s.accept.rdy = s.rdy := rfl
@[simp] theorem State.accept_lanes : s.accept.lanes = s.lanes := rfl
@[simp] theorem State.accept_service : s.accept.service = s.service := rfl
@[simp] theorem State.accept_link : s.accept.link = s.link := rfl
@[simp] theorem State.accept_now : s.accept.now = s.now := rfl
@[simp] theorem State.accept_nextTag : s.accept.nextTag = s.nextTag := rfl
@[simp] theorem State.accept_pending : s.accept.pending = s.pending := rfl

@[simp] theorem State.tagTaken_host : s.tagTaken.host = s.host := rfl
@[simp] theorem State.tagTaken_cfg : s.tagTaken.cfg = s.cfg := rfl
@[simp] theorem State.tagTaken_image : s.tagTaken.image = s.image := rfl
@[simp] theorem State.tagTaken_health : s.tagTaken.health = s.health := rfl
@[simp] theorem State.tagTaken_live : s.tagTaken.live = s.live := rfl
@[simp] theorem State.tagTaken_paths : s.tagTaken.paths = s.paths := rfl
@[simp] theorem State.tagTaken_arbiter : s.tagTaken.arbiter = s.arbiter := rfl
@[simp] theorem State.tagTaken_plans : s.tagTaken.plans = s.plans := rfl
@[simp] theorem State.tagTaken_contexts : s.tagTaken.contexts = s.contexts := rfl
@[simp] theorem State.tagTaken_rdy : s.tagTaken.rdy = s.rdy := rfl
@[simp] theorem State.tagTaken_lanes : s.tagTaken.lanes = s.lanes := rfl
@[simp] theorem State.tagTaken_service : s.tagTaken.service = s.service := rfl
@[simp] theorem State.tagTaken_link : s.tagTaken.link = s.link := rfl
@[simp] theorem State.tagTaken_now : s.tagTaken.now = s.now := rfl
@[simp] theorem State.tagTaken_pending : s.tagTaken.pending = s.pending := rfl

@[simp] theorem State.setPoll_host (p : PollState) : (s.setPoll p).host = s.host := rfl
@[simp] theorem State.setPoll_cfg (p : PollState) : (s.setPoll p).cfg = s.cfg := rfl
@[simp] theorem State.setPoll_image (p : PollState) : (s.setPoll p).image = s.image := rfl
@[simp] theorem State.setPoll_health (p : PollState) : (s.setPoll p).health = s.health := rfl
@[simp] theorem State.setPoll_live (p : PollState) : (s.setPoll p).live = s.live := rfl
@[simp] theorem State.setPoll_paths (p : PollState) : (s.setPoll p).paths = s.paths := rfl
@[simp] theorem State.setPoll_arbiter (p : PollState) : (s.setPoll p).arbiter = s.arbiter := rfl
@[simp] theorem State.setPoll_plans (p : PollState) : (s.setPoll p).plans = s.plans := rfl
@[simp] theorem State.setPoll_contexts (p : PollState) : (s.setPoll p).contexts = s.contexts := rfl
@[simp] theorem State.setPoll_rdy (p : PollState) : (s.setPoll p).rdy = s.rdy := rfl
@[simp] theorem State.setPoll_lanes (p : PollState) : (s.setPoll p).lanes = s.lanes := rfl
@[simp] theorem State.setPoll_service (p : PollState) : (s.setPoll p).service = s.service := rfl
@[simp] theorem State.setPoll_now (p : PollState) : (s.setPoll p).now = s.now := rfl
@[simp] theorem State.setPoll_nextTag (p : PollState) : (s.setPoll p).nextTag = s.nextTag := rfl
@[simp] theorem State.setPoll_pending (p : PollState) : (s.setPoll p).pending = s.pending := rfl

@[simp] theorem State.freeLink_host : s.freeLink.host = s.host := rfl
@[simp] theorem State.freeLink_cfg : s.freeLink.cfg = s.cfg := rfl
@[simp] theorem State.freeLink_image : s.freeLink.image = s.image := rfl
@[simp] theorem State.freeLink_health : s.freeLink.health = s.health := rfl
@[simp] theorem State.freeLink_live : s.freeLink.live = s.live := rfl
@[simp] theorem State.freeLink_paths : s.freeLink.paths = s.paths := rfl
@[simp] theorem State.freeLink_arbiter : s.freeLink.arbiter = s.arbiter := rfl
@[simp] theorem State.freeLink_plans : s.freeLink.plans = s.plans := rfl
@[simp] theorem State.freeLink_contexts : s.freeLink.contexts = s.contexts := rfl
@[simp] theorem State.freeLink_rdy : s.freeLink.rdy = s.rdy := rfl
@[simp] theorem State.freeLink_lanes : s.freeLink.lanes = s.lanes := rfl
@[simp] theorem State.freeLink_service : s.freeLink.service = s.service := rfl
@[simp] theorem State.freeLink_now : s.freeLink.now = s.now := rfl
@[simp] theorem State.freeLink_nextTag : s.freeLink.nextTag = s.nextTag := rfl
@[simp] theorem State.freeLink_pending : s.freeLink.pending = s.pending := rfl

@[simp] theorem State.setDiscovery_host (d : Discovery) : (s.setDiscovery d).host = s.host := rfl
@[simp] theorem State.setDiscovery_cfg (d : Discovery) : (s.setDiscovery d).cfg = s.cfg := rfl
@[simp] theorem State.setDiscovery_image (d : Discovery) : (s.setDiscovery d).image = s.image := rfl
@[simp] theorem State.setDiscovery_health (d : Discovery) : (s.setDiscovery d).health = s.health := rfl
@[simp] theorem State.setDiscovery_live (d : Discovery) : (s.setDiscovery d).live = s.live := rfl
@[simp] theorem State.setDiscovery_paths (d : Discovery) : (s.setDiscovery d).paths = s.paths := rfl
@[simp] theorem State.setDiscovery_arbiter (d : Discovery) : (s.setDiscovery d).arbiter = s.arbiter := rfl
@[simp] theorem State.setDiscovery_plans (d : Discovery) : (s.setDiscovery d).plans = s.plans := rfl
@[simp] theorem State.setDiscovery_contexts (d : Discovery) : (s.setDiscovery d).contexts = s.contexts := rfl
@[simp] theorem State.setDiscovery_rdy (d : Discovery) : (s.setDiscovery d).rdy = s.rdy := rfl
@[simp] theorem State.setDiscovery_lanes (d : Discovery) : (s.setDiscovery d).lanes = s.lanes := rfl
@[simp] theorem State.setDiscovery_service (d : Discovery) : (s.setDiscovery d).service = s.service := rfl
@[simp] theorem State.setDiscovery_now (d : Discovery) : (s.setDiscovery d).now = s.now := rfl
@[simp] theorem State.setDiscovery_nextTag (d : Discovery) : (s.setDiscovery d).nextTag = s.nextTag := rfl
@[simp] theorem State.setDiscovery_pending (d : Discovery) : (s.setDiscovery d).pending = s.pending := rfl

/-! ## Fields that an update writes -/

@[simp] theorem State.modLane_lanes (n : LaneId) (f : Lane → Lane) : (s.modLane n f).lanes = modAt s.lanes n f := rfl
@[simp] theorem State.modContext_contexts (n : SiteId) (f : Context → Context) :
    (s.modContext n f).contexts = modAt s.contexts n f := rfl
@[simp] theorem State.modBay_bays (b : BayId) (f : Bay → Bay) : (s.modBay b f).link.bays = modAt s.link.bays b f := rfl
@[simp] theorem State.modBay_frame (b : BayId) (f : Bay → Bay) : (s.modBay b f).link.frame = s.link.frame := rfl
@[simp] theorem State.modBay_poll (b : BayId) (f : Bay → Bay) : (s.modBay b f).link.poll = s.link.poll := rfl
@[simp] theorem State.modBay_rate (b : BayId) (f : Bay → Bay) : (s.modBay b f).link.rate = s.link.rate := rfl
@[simp] theorem State.modBay_discovery (b : BayId) (f : Bay → Bay) : (s.modBay b f).link.discovery = s.link.discovery := rfl
@[simp] theorem State.modPath_paths (p : PathId) (f : PathEntry → PathEntry) : (s.modPath p f).paths = modAt s.paths p f := rfl
@[simp] theorem State.setRdy_rdy (n : SiteId) (l : Bool) : (s.setRdy n l).rdy = setAt s.rdy n l := rfl
@[simp] theorem State.setPlan_plans (n : SiteId) (p : Option Plan) : (s.setPlan n p).plans = setAt s.plans n p := rfl
@[simp] theorem State.tagTaken_nextTag : s.tagTaken.nextTag = s.nextTag + 1 := rfl
@[simp] theorem State.setPoll_poll (p : PollState) : (s.setPoll p).link.poll = p := rfl
@[simp] theorem State.setPoll_bays (p : PollState) : (s.setPoll p).link.bays = s.link.bays := rfl
@[simp] theorem State.freeLink_frame : s.freeLink.link.frame = none := rfl
@[simp] theorem State.freeLink_bays : s.freeLink.link.bays = s.link.bays := rfl
@[simp] theorem State.setDiscovery_discovery (d : Discovery) : (s.setDiscovery d).link.discovery = d := rfl
@[simp] theorem State.setDiscovery_bays (d : Discovery) : (s.setDiscovery d).link.bays = s.link.bays := rfl
@[simp] theorem State.raise_cause (c : BitVec 7) : (s.raise c).host.cause = s.host.cause ||| c := rfl
@[simp] theorem State.raise_device (c : BitVec 7) : (s.raise c).host.device = s.host.device := rfl
@[simp] theorem State.raise_passage (c : BitVec 7) : (s.raise c).host.passage = s.host.passage := rfl
@[simp] theorem State.refuse_refused : s.refuse.host.refused = true := rfl
@[simp] theorem State.accept_refused : s.accept.host.refused = false := rfl

end Sys2Proof.Machine
end

