-- ==== Sys2Proof/Laws/Lanes.lean ====
section
/-! SUPPORT. What the shared operations of the lanes do: one lemma for each says the whole of it, in the terms of the statements. -/

namespace Sys2Proof.Machine

variable {α : Type} {k : Nat} (s : State)

@[simp] theorem setAt_setAt (v : Vector α k) (i : Fin k) (x y : α) : setAt (setAt v i x) i y = setAt v i y :=
  vector_ext fun j => by simp only [setAt_getElem]; split <;> rfl

/-- A write of an entry's own value changes nothing. -/
theorem setAt_self (v : Vector α k) (i : Fin k) : setAt v i v[i] = v :=
  vector_ext fun j => by
    rw [setAt_getElem]
    split
    · subst_vars; rfl
    · rfl

theorem State.modLane_eq (n : LaneId) (f : Lane → Lane) : s.modLane n f = { s with lanes := setAt s.lanes n (f s.lanes[n]) } := rfl

/-- The RDY lines after a drop of a lane's site. -/
theorem State.dropLaneRdy_eq (n : LaneId) : s.dropLaneRdy n = { s with rdy := rdyDropped s n } := by
  have self : ∀ i : Fin 8, i.val ≠ n.val → (rdyDropped s n)[i] = s.rdy[i] := fun i h => by simp [rdyDropped, h]
  unfold State.dropLaneRdy laneSite
  split
  · rename_i site h
    split at h
    · obtain rfl := Option.some.inj h
      simp only [State.setRdy]
      congr 1
      refine vector_ext fun j => ?_
      rw [setAt_getElem]
      by_cases hj : j.val = n.val
      · rw [if_pos (Fin.ext hj.symm)]; simp [rdyDropped, hj]
      · rw [if_neg (fun e => hj (by rw [← e])), self j hj]
    · cases h
  · rename_i h
    split at h
    · cases h
    · have : rdyDropped s n = s.rdy := vector_ext fun j => self j (by omega)
      rw [this]

/-- R53: a write of a lane's status word. -/
theorem State.writeLaneStatus_spec (n : LaneId) (causes : BitVec 7) :
    ∃ port tag, s.writeLaneStatus n causes =
        { s with lanes := setAt s.lanes n { s.lanes[n] with port := port }, nextTag := tag } ∧ s.nextTag ≤ tag ∧
      (s.lanes[n].port.access.isSome = true → port = { s.lanes[n].port with owed := s.lanes[n].port.owed ++ [causes] }) ∧
      (s.lanes[n].port.access = none → s.lanes[n].port.owed = [] → tag = s.nextTag + 1 ∧ port =
        { access := some ⟨s.nextTag, s.now, .write (s.laneStatusAddr n) s.lanes[n].statusWord⟩, causes := causes, owed := [] }) := by
  have hl : (s.modLane n fun l => { l with port := l.port.owe causes }).lanes[n] =
      { s.lanes[n] with port := s.lanes[n].port.owe causes } := by
    rw [State.modLane_lanes, modAt_getElem, if_pos rfl]
  unfold State.writeLaneStatus State.pumpLane
  rw [hl]
  by_cases h : s.lanes[n].port.access = none
  · have hready : (s.lanes[n].port.owe causes).ready = true := by
      simp only [StatusPort.ready, StatusPort.owe, h]; simp
    rw [if_pos hready, State.modLane_eq, hl, State.modLane_eq]
    refine ⟨(s.lanes[n].port.owe causes).pump ⟨s.nextTag, s.now, .write (s.laneStatusAddr n) s.lanes[n].statusWord⟩,
      s.nextTag + 1, ?_, Nat.le_succ s.nextTag, fun h' => ?_, fun _ h2 => ⟨rfl, ?_⟩⟩
    · simp only [setAt_setAt]; rfl
    · rw [h] at h'; cases h'
    · simp only [StatusPort.pump, StatusPort.owe, h2, List.nil_append]
  · have hready : ¬ (s.lanes[n].port.owe causes).ready = true := by
      simp only [StatusPort.ready, StatusPort.owe]
      cases ha : s.lanes[n].port.access with
      | none => exact absurd ha h
      | some a => simp
    rw [if_neg hready]
    exact ⟨_, _, rfl, le_refl _, fun _ => rfl, fun h2 => absurd h2 h⟩

/-- The state after lane `n` has become `l` and has written its status word, with the RDY lines as they then stand. -/
theorem State.writeLaneStatus_word (l : Lane) (n : LaneId) (causes : BitVec 7) (rdy : Vector Bool 8)
    (hport : l.port = s.lanes[n].port) :
    ∃ t, ({ s with lanes := setAt s.lanes n l, rdy := rdy } : State).writeLaneStatus n causes = t ∧
      t.lanes[n] = { l with port := t.lanes[n].port } ∧ LaneWordWritten s t n causes ∧ s.nextTag ≤ t.nextTag ∧
      t = { s with lanes := setAt s.lanes n t.lanes[n], rdy := rdy, nextTag := t.nextTag } := by
  obtain ⟨port, tag, heq, hle, hbusy, hfree⟩ :=
    State.writeLaneStatus_spec ({ s with lanes := setAt s.lanes n l, rdy := rdy } : State) n causes
  have hl : (setAt s.lanes n l)[n] = l := by rw [setAt_getElem, if_pos rfl]
  have hp : (setAt s.lanes n { l with port := port })[n] = { l with port := port } := by rw [setAt_getElem, if_pos rfl]
  simp only [hl, hport, setAt_setAt] at heq hbusy hfree hle
  refine ⟨_, heq, ?_, ⟨fun h => ?_, fun h1 h2 => ?_⟩, hle, ?_⟩
  · simp only [hp]
  · exact (congrArg Lane.port hp).trans (hbusy h)
  · obtain ⟨rfl, rfl⟩ := hfree h1 h2
    simp only [hp]
    exact ⟨⟨s.nextTag, le_refl _, Nat.lt_succ_self _, rfl⟩, trivial, trivial⟩
  · simp only [hp]

/-- R53, R108: a halt. -/
theorem State.haltLane_spec (n : LaneId) (reason : HaltReason) (l : Lane) (hport : l.port = s.lanes[n].port)
    (haccess : l.access = none) :
    LaneHalted s (({ s with lanes := setAt s.lanes n l } : State).haltLane n reason) n reason reason.causes l := by
  unfold State.haltLane
  rw [State.dropLaneRdy_eq, State.modLane_eq]
  simp only [setAt_getElem, if_true, setAt_setAt]
  obtain ⟨t, ht, hlane, hword, -, heq⟩ := State.writeLaneStatus_word s
    { l with
      state := .halted, halt := some reason, pollTimer := none, offsetTimer := none, held := none, deferred := .none,
      memoryOwed := false } n reason.causes (rdyDropped s n) hport
  suffices h : LaneHalted s t n reason reason.causes l from ht ▸ h
  exact ⟨hlane.trans (by simp only [haccess]), hword, heq⟩

/-- A lane whose access has completed, as a state. -/
theorem State.laneAccessDone_eq (n : LaneId) :
    s.laneAccessDone n = { s with lanes := setAt s.lanes n { s.lanes[n] with access := none } } := rfl

/-- A lane's access is issued from `l`. -/
theorem State.laneIssue_eq (n : LaneId) (op : LaneOp) (req : MemReq) :
    s.laneIssue n op req =
      { s with
        lanes := setAt s.lanes n { s.lanes[n] with access := some ⟨op, s.nextTag, s.now, req⟩ }, nextTag := s.nextTag + 1 } := rfl

/-- A lane enters a state other than HALTED. -/
theorem State.enterLane_spec (n : LaneId) (state : LaneState) (l : Lane) (hport : l.port = s.lanes[n].port) :
    ∃ t, ({ s with lanes := setAt s.lanes n l } : State).enterLane n state = t ∧
      t.lanes[n] =
        { l with
          state := state, halt := none, port := t.lanes[n].port
          pollTimer := if state = .idle ∧ l.desc.mode = .free ∧ l.desc.pollInterval ≠ 0 then some s.now else none } ∧
      (l.state ≠ state → LaneWordWritten s t n 0) ∧ s.nextTag ≤ t.nextTag ∧ ChangesLane s t n := by
  have hl : (setAt s.lanes n l)[n] = l := by rw [setAt_getElem, if_pos rfl]
  unfold State.enterLane
  simp only [hl]
  by_cases h : l.state = state
  · rw [if_pos h, State.modLane_eq]
    simp only [hl, setAt_setAt]
    exact ⟨_, rfl, by rw [setAt_getElem, if_pos rfl]; rfl, fun h' => absurd h h', le_refl _,
      by simp only [ChangesLane, setAt_getElem, if_true]⟩
  · rw [if_neg h, State.modLane_eq]
    simp only [hl, setAt_setAt]
    obtain ⟨t, ht, hlane, hword, hle, heq⟩ := State.writeLaneStatus_word s
      { l with state := state, halt := none, pollTimer := s.pollStart l state } n 0 s.rdy hport
    exact ⟨t, ht, hlane, fun _ => hword, hle, heq⟩

end Sys2Proof.Machine
end

