-- ==== Sys2Proof/Laws/Outer.lean ====
section
/-! SUPPORT. What the lanes, the orders and the switch contexts never touch: the image, the wear and the marks, the configuration
copies, the live-line monitor, the bay link, and the registers but for the cause bits. One lemma per operation says so. -/

namespace Sys2Proof.Machine

/-- The part of the state that belongs to the matrix, to the bays and to the host interface, without the cause bits. -/
structure Outer where
  host : HostInterface
  image : Image
  health : Health
  cfg : ConfigCopies
  live : LiveMonitor
  link : LinkController

def State.outer (s : State) : Outer :=
  { host := { s.host with cause := 0 }, image := s.image, health := s.health, cfg := s.cfg, live := s.live, link := s.link }

/-- A projection that every step of a fold keeps is kept by the fold. -/
theorem foldl_keeps {β γ : Type} (p : State → γ) (f : State → β → State) (h : ∀ t x, p (f t x) = p t) (xs : List β) (s : State) :
    p (xs.foldl f s) = p s := by
  induction xs generalizing s with
  | nil => rfl
  | cons x xs ih => rw [List.foldl_cons, ih, h]

variable (s : State)

theorem outer_ext {s t : State} (host : t.host = s.host) (image : t.image = s.image) (health : t.health = s.health)
    (cfg : t.cfg = s.cfg) (live : t.live = s.live) (link : t.link = s.link) : t.outer = s.outer := by
  simp only [State.outer, host, image, health, cfg, live, link]

theorem State.outer_image {s t : State} (h : t.outer = s.outer) : t.image = s.image := congrArg Outer.image h
theorem State.outer_health {s t : State} (h : t.outer = s.outer) : t.health = s.health := congrArg Outer.health h
theorem State.outer_cfg {s t : State} (h : t.outer = s.outer) : t.cfg = s.cfg := congrArg Outer.cfg h
theorem State.outer_live {s t : State} (h : t.outer = s.outer) : t.live = s.live := congrArg Outer.live h
theorem State.outer_link {s t : State} (h : t.outer = s.outer) : t.link = s.link := congrArg Outer.link h
theorem State.outer_host {s t : State} (h : t.outer = s.outer) : { t.host with cause := 0 } = { s.host with cause := 0 } :=
  congrArg Outer.host h


/-! ## Updates -/

@[simp] theorem State.modLane_outer (n : LaneId) (f : Lane → Lane) : (s.modLane n f).outer = s.outer := rfl
@[simp] theorem State.modContext_outer (n : SiteId) (f : Context → Context) : (s.modContext n f).outer = s.outer := rfl
@[simp] theorem State.modPath_outer (p : PathId) (f : PathEntry → PathEntry) : (s.modPath p f).outer = s.outer := rfl
@[simp] theorem State.setRdy_outer (n : SiteId) (level : Bool) : (s.setRdy n level).outer = s.outer := rfl
@[simp] theorem State.setPlan_outer (n : SiteId) (p : Option Plan) : (s.setPlan n p).outer = s.outer := rfl
@[simp] theorem State.tagTaken_outer : (s.tagTaken).outer = s.outer := rfl
@[simp] theorem State.raise_outer (c : BitVec 7) : (s.raise c).outer = s.outer := rfl
@[simp] theorem State.raiseMemoryUnless_outer (ok : Bool) : (s.raiseMemoryUnless ok).outer = s.outer := by
  simp only [State.raiseMemoryUnless]
  repeat' split
  all_goals simp
@[simp] theorem State.dropLaneRdy_outer (n : LaneId) : (s.dropLaneRdy n).outer = s.outer := by
  simp only [State.dropLaneRdy]
  repeat' split
  all_goals simp

/-! ## Paths and claims -/

@[simp] theorem State.takeEntry_outer (e : DefinitionEntry) : ((s.takeEntry e).1).outer = s.outer := by
  simp only [State.takeEntry]
  repeat' split
  all_goals simp
@[simp] theorem State.undefineFrom_outer (first count : Nat) : ((s.undefineFrom first count).1).outer = s.outer := by
  induction count generalizing s first with
  | zero => rfl
  | succ c ih =>
    simp only [State.undefineFrom]
    split <;> simp [ih]

@[simp] theorem State.namePaths_outer (ids : List PathId) : (s.namePaths ids).outer = s.outer := by
  unfold State.namePaths
  simp only [foldl_keeps State.outer _ fun t p => t.modPath_outer p _]

@[simp] theorem State.releaseRows_outer (rows : List RowId) : (s.releaseRows rows).outer = s.outer := by
  unfold State.releaseRows
  split
  · rfl
  · refine outer_ext ?_ ?_ ?_ ?_ ?_ ?_ <;> simp only []

@[simp] theorem State.judgePassed_outer (ids : List PathId) : ((s.judgePassed ids).1).outer = s.outer := by
  unfold State.judgePassed
  simp only [foldl_keeps State.outer _ fun t p => t.modPath_outer p _]

@[simp] theorem State.judgeUnpassed_outer (ids : List PathId) : ((s.judgeUnpassed ids).1).outer = s.outer := by
  unfold State.judgeUnpassed
  simp only [foldl_keeps State.outer _ fun t p => t.modPath_outer p _]

@[simp] theorem State.markBroken_outer (b : BayId) : (s.markBroken b).outer = s.outer := by
  refine outer_ext ?_ ?_ ?_ ?_ ?_ ?_ <;> simp only [State.markBroken]

@[simp] theorem State.parkPaths_outer : (s.parkPaths).outer = s.outer := by
  refine outer_ext ?_ ?_ ?_ ?_ ?_ ?_ <;> simp only [State.parkPaths]

@[simp] theorem State.grantRows_outer (n : SiteId) (rows : List RowId) : (s.grantRows n rows).outer = s.outer := by
  refine outer_ext ?_ ?_ ?_ ?_ ?_ ?_ <;> simp only [State.grantRows]

@[simp] theorem State.appendClaim_outer (n : SiteId) (rows : List RowId) : (s.appendClaim n rows).outer = s.outer := by
  refine outer_ext ?_ ?_ ?_ ?_ ?_ ?_ <;> simp only [State.appendClaim]

@[simp] theorem State.removeClaim_outer (n : SiteId) : (s.removeClaim n).outer = s.outer := by
  refine outer_ext ?_ ?_ ?_ ?_ ?_ ?_ <;> simp only [State.removeClaim]

@[simp] theorem State.walkFrom_outer (reserved : List RowId) (es : List WaitEntry) : ((s.walkFrom reserved es).1).outer = s.outer := by
  induction es generalizing s reserved with
  | nil => rfl
  | cons e es ih =>
    simp only [State.walkFrom]
    split <;> simp [ih]

@[simp] theorem State.walk_outer : (s.walk.1).outer = s.outer := s.walkFrom_outer [] s.arbiter.waiting

@[simp] theorem State.handover_outer (d c : List PathId) : (s.handover d c).outer = s.outer := by
  refine outer_ext ?_ ?_ ?_ ?_ ?_ ?_ <;> simp only [State.handover]

@[simp] theorem State.freeAllRows_outer : (s.freeAllRows).outer = s.outer := by
  refine outer_ext ?_ ?_ ?_ ?_ ?_ ?_ <;> simp only [State.freeAllRows]


/-! ## Lanes -/

@[simp] theorem State.pumpLane_outer (n : LaneId) : (s.pumpLane n).outer = s.outer := by
  simp only [State.pumpLane]
  repeat' split
  all_goals simp
@[simp] theorem State.writeLaneStatus_outer (n : LaneId) (c : BitVec 7) : (s.writeLaneStatus n c).outer = s.outer := by
  simp only [State.writeLaneStatus]
  simp
@[simp] theorem State.laneIssue_outer (n : LaneId) (op : LaneOp) (req : MemReq) : (s.laneIssue n op req).outer = s.outer := rfl
@[simp] theorem State.laneAccessDone_outer (n : LaneId) : (s.laneAccessDone n).outer = s.outer := rfl
@[simp] theorem State.enterLane_outer (n : LaneId) (state : LaneState) : (s.enterLane n state).outer = s.outer := by
  simp only [State.enterLane]
  repeat' split
  all_goals simp
@[simp] theorem State.haltLane_outer (n : LaneId) (r : HaltReason) : (s.haltLane n r).outer = s.outer := by
  simp only [State.haltLane]
  simp
@[simp] theorem State.setCursor_outer (n : LaneId) (c : Cursor) : (s.setCursor n c).outer = s.outer := rfl
@[simp] theorem State.setDeferred_outer (n : LaneId) (d : Deferred) : (s.setDeferred n d).outer = s.outer := rfl
@[simp] theorem State.stopLaneTimers_outer (n : LaneId) : (s.stopLaneTimers n).outer = s.outer := rfl
@[simp] theorem State.readRecord_outer (n : LaneId) (y : Addr) : (s.readRecord n y).outer = s.outer := by
  simp only [State.readRecord]
  simp
@[simp] theorem State.startEvent_outer (n : LaneId) : (s.startEvent n).outer = s.outer := by
  simp only [State.startEvent]
  repeat' split
  all_goals simp
@[simp] theorem State.laneStart_outer (n : LaneId) : (s.laneStart n).outer = s.outer := by
  simp only [State.laneStart]
  repeat' split
  all_goals simp
@[simp] theorem State.missStrobe_outer (n : LaneId) : (s.missStrobe n).outer = s.outer := rfl
@[simp] theorem State.strobeLane_outer (n : LaneId) : (s.strobeLane n).outer = s.outer := by
  simp only [State.strobeLane]
  repeat' split
  all_goals simp
@[simp] theorem State.orderStart_outer (n : LaneId) : (s.orderStart n).outer = s.outer := by
  simp only [State.orderStart]
  simp
@[simp] theorem State.endOrder_outer (n : LaneId) (code : Code) (acc : Accumulators) (a b : Nat) : (s.endOrder n code acc a b).outer = s.outer := by
  simp only [State.endOrder]
  simp
@[simp] theorem State.abortOffset_outer (n : LaneId) : (s.abortOffset n).outer = s.outer := by
  simp only [State.abortOffset]
  simp
@[simp] theorem State.readEndLink_outer (n : LaneId) (x : Addr) : (s.readEndLink n x).outer = s.outer := by
  simp only [State.readEndLink]
  simp
@[simp] theorem State.resetLane_outer (n : LaneId) : (s.resetLane n).outer = s.outer := by
  simp only [State.resetLane]
  simp
@[simp] theorem State.parkHalt_outer (n : LaneId) : (s.parkHalt n).outer = s.outer := by
  simp only [State.parkHalt]
  simp
@[simp] theorem State.discardRead_outer (n : LaneId) (ok : Bool) : (s.discardRead n ok).outer = s.outer := by
  simp only [State.discardRead]
  repeat' split
  all_goals simp
@[simp] theorem State.recordArmed_outer (n : LaneId) : (s.recordArmed n).outer = s.outer := by
  simp only [State.recordArmed]
  repeat' split
  all_goals simp
@[simp] theorem State.recordRead_outer (n : LaneId) (r : Option (List Byte)) : (s.recordRead n r).outer = s.outer := by
  simp only [State.recordRead]
  repeat' split
  all_goals simp
@[simp] theorem State.linkRead_outer (n : LaneId) (e : Bool) (r : Option (List Byte)) : (s.linkRead n e r).outer = s.outer := by
  simp only [State.linkRead]
  repeat' split
  all_goals simp
@[simp] theorem State.headRead_outer (n : LaneId) (r : Option (List Byte)) : (s.headRead n r).outer = s.outer := by
  simp only [State.headRead]
  repeat' split
  all_goals simp
@[simp] theorem State.startWriteFailed_outer (n : LaneId) : (s.startWriteFailed n).outer = s.outer := by
  simp only [State.startWriteFailed]
  repeat' split
  all_goals simp
@[simp] theorem State.startResultDone_outer (n : LaneId) (ok : Bool) : (s.startResultDone n ok).outer = s.outer := by
  simp only [State.startResultDone]
  repeat' split
  all_goals simp
@[simp] theorem State.endWriteFailed_outer (n : LaneId) : (s.endWriteFailed n).outer = s.outer := by
  simp only [State.endWriteFailed]
  repeat' split
  all_goals simp
@[simp] theorem State.endResultDone_outer (n : LaneId) (ok : Bool) : (s.endResultDone n ok).outer = s.outer := by
  simp only [State.endResultDone]
  repeat' split
  all_goals simp
@[simp] theorem State.afterFinal_outer (n : LaneId) : (s.afterFinal n).outer = s.outer := by
  simp only [State.afterFinal]
  repeat' split
  all_goals simp
@[simp] theorem State.stateWriteDone_outer (n : LaneId) (ok : Bool) : (s.stateWriteDone n ok).outer = s.outer := by
  simp only [State.stateWriteDone]
  repeat' split
  all_goals simp

/-! ## The switch engine -/

@[simp] theorem State.judge_outer (n : SiteId) : (s.judge n).outer = s.outer := by
  simp only [State.judge]
  repeat' split
  all_goals simp
@[simp] theorem State.endRdy_outer (n : SiteId) (code : Code) : (s.endRdy n code).outer = s.outer := by
  simp only [State.endRdy]
  repeat' split
  all_goals simp
@[simp] theorem State.finishOrder_outer (n : SiteId) (code : Code) : (s.finishOrder n code).outer = s.outer := by
  simp only [State.finishOrder]
  repeat' split
  all_goals simp
@[simp] theorem State.offerCleanup_outer (n : SiteId) : (s.offerCleanup n).outer = s.outer := by
  simp only [State.offerCleanup]
  repeat' split
  all_goals simp
@[simp] theorem State.proceedEnding_outer (n : SiteId) : (s.proceedEnding n).outer = s.outer := by
  simp only [State.proceedEnding]
  repeat' split
  all_goals simp
@[simp] theorem State.takeEnding_outer (n : SiteId) (code : Code) (i : Option Nat) : (s.takeEnding n code i).outer = s.outer := by
  simp only [State.takeEnding]
  repeat' split
  all_goals simp
@[simp] theorem State.joinDue_outer (n : SiteId) (w : Wave) (hot : List RelayNo) : (s.joinDue n w hot).outer = s.outer := rfl
@[simp] theorem State.waveDue_outer (n : SiteId) (w : Wave) : (s.waveDue n w).outer = s.outer := by
  simp only [State.waveDue]
  repeat' split
  all_goals simp
@[simp] theorem State.wavesDue_outer (n : SiteId) (ws : List Wave) : (s.wavesDue n ws).outer = s.outer := foldl_keeps _ _ (fun t w => t.waveDue_outer n w) _ _

@[simp] theorem State.drainQueue_outer (n : SiteId) (ws : List Wave) : (s.drainQueue n ws).outer = s.outer := by
  induction ws generalizing s with
  | nil => rfl
  | cons w ws ih =>
    simp only [State.drainQueue]
    split <;> simp [ih]

@[simp] theorem State.recheckHeld_outer (n : SiteId) (h : HeldWave) : (s.recheckHeld n h).outer = s.outer := by
  simp only [State.recheckHeld]
  repeat' split
  all_goals simp
@[simp] theorem State.rowEvent_outer (n : SiteId) (r : RowId) : (s.rowEvent n r).outer = s.outer := by
  simp only [State.rowEvent]
  repeat' split
  all_goals simp

/-! ## Scans -/

@[simp] theorem State.setScanPhase_outer (n : SiteId) (p : ScanPhase) : (s.setScanPhase n p).outer = s.outer := rfl
@[simp] theorem State.nextClosingDue_outer (n : SiteId) (b : BayId) : (s.nextClosingDue n b).outer = s.outer := by
  simp only [State.nextClosingDue]
  repeat' split
  all_goals simp
@[simp] theorem State.startBayMake_outer (n : SiteId) (b : BayId) (ws : List Wave) : (s.startBayMake n b ws).outer = s.outer := by
  simp only [State.startBayMake]
  repeat' split
  all_goals simp
@[simp] theorem State.startBayBreak_outer (n : SiteId) (w : Wave) : (s.startBayBreak n w).outer = s.outer := by
  simp only [State.startBayBreak]
  repeat' split
  all_goals simp
@[simp] theorem State.stepMake_outer (n : SiteId) (c : ColumnId) (xs : List RelayNo) : (s.stepMake n c xs).outer = s.outer := by
  simp only [State.stepMake]
  simp
@[simp] theorem State.stepZero_outer (n : SiteId) : (s.stepZero n).outer = s.outer := by
  simp only [State.stepZero]
  repeat' split
  all_goals simp
@[simp] theorem State.markReady_outer (n : SiteId) : (s.markReady n).outer = s.outer := by
  simp only [State.markReady]
  simp
@[simp] theorem State.startGuardOff_outer (n : SiteId) : (s.startGuardOff n).outer = s.outer := by
  simp only [State.startGuardOff]
  split
  · simp
  · split
    · simp
    · rw [foldl_keeps State.outer _ fun t w => t.startBayBreak_outer n w]
      simp

@[simp] theorem State.afterCleanup_outer (n : SiteId) : (s.afterCleanup n).outer = s.outer := by
  simp only [State.afterCleanup]
  repeat' split
  all_goals simp
@[simp] theorem State.normalEnd_outer (n : SiteId) : (s.normalEnd n).outer = s.outer := by
  simp only [State.normalEnd]
  repeat' split
  all_goals simp
@[simp] theorem State.changeColumn_outer (n : SiteId) (a b : ColumnId) : (s.changeColumn n a b).outer = s.outer := by
  simp only [State.changeColumn]
  repeat' split
  all_goals simp
@[simp] theorem State.advanceScan_outer (fuel : Nat) (n : SiteId) : (State.advanceScan fuel n s).outer = s.outer := by
  induction fuel generalizing s with
  | zero => rfl
  | succ f ih =>
    simp only [State.advanceScan]
    repeat' split
    all_goals simp [ih]

@[simp] theorem State.stepReady_outer (n : SiteId) : (s.stepReady n).outer = s.outer := by
  simp only [State.stepReady]
  repeat' split
  all_goals simp
@[simp] theorem State.stepSettle_outer (n : SiteId) : (s.stepSettle n).outer = s.outer := by
  simp only [State.stepSettle]
  repeat' split
  all_goals simp
@[simp] theorem State.stepGapEnd_outer (n : SiteId) : (s.stepGapEnd n).outer = s.outer := by
  simp only [State.stepGapEnd]
  repeat' split
  all_goals simp
@[simp] theorem State.stepBreakEnd_outer (n : SiteId) : (s.stepBreakEnd n).outer = s.outer := by
  simp only [State.stepBreakEnd]
  repeat' split
  all_goals simp

/-! ## Phases -/

@[simp] theorem State.setPhase_outer (n : SiteId) (p : Phase) : (s.setPhase n p).outer = s.outer := rfl
@[simp] theorem State.startSensing_outer (n : SiteId) (xs : List RelayNo) : (s.startSensing n xs).outer = s.outer := by
  simp only [State.startSensing]
  repeat' split
  all_goals simp
@[simp] theorem State.afterSettle_outer (n : SiteId) : (s.afterSettle n).outer = s.outer := by
  simp only [State.afterSettle]
  repeat' split
  all_goals simp
@[simp] theorem State.enterSettle_outer (n : SiteId) : (s.enterSettle n).outer = s.outer := by
  simp only [State.enterSettle]
  repeat' split
  all_goals simp
@[simp] theorem State.enterMake_outer (n : SiteId) : (s.enterMake n).outer = s.outer := by
  simp only [State.enterMake]
  split
  · rfl
  · split
    · simp only [State.enterSettle_outer]
      split <;> simp
    · rw [foldl_keeps State.outer _ fun t b => t.startBayMake_outer n b _]
      split <;> simp

@[simp] theorem State.breakEnd_outer (n : SiteId) : (s.breakEnd n).outer = s.outer := by
  simp only [State.breakEnd]
  repeat' split
  all_goals simp
@[simp] theorem State.breakExpired_outer (n : SiteId) (b : BayId) : (s.breakExpired n b).outer = s.outer := by
  simp only [State.breakExpired]
  repeat' split
  all_goals simp
@[simp] theorem State.gapExpired_outer (n : SiteId) : (s.gapExpired n).outer = s.outer := by
  simp only [State.gapExpired]
  repeat' split
  all_goals simp
@[simp] theorem State.spacingExpired_outer (n : SiteId) (b : BayId) : (s.spacingExpired n b).outer = s.outer := by
  simp only [State.spacingExpired]
  simp
@[simp] theorem State.makeExpired_outer (n : SiteId) (b : BayId) : (s.makeExpired n b).outer = s.outer := by
  simp only [State.makeExpired]
  repeat' split
  all_goals simp
@[simp] theorem State.keepPlan_outer (n : SiteId) (p : Plan) : (s.keepPlan n p).outer = s.outer := rfl
@[simp] theorem State.acceptPlan_outer (n : SiteId) (p : Plan) : (s.acceptPlan n p).outer = s.outer := by
  simp only [State.acceptPlan]
  split
  · simp
  · rw [foldl_keeps State.outer _ fun t w => t.startBayBreak_outer n w]
    simp

@[simp] theorem State.planOrder_outer (n : SiteId) : (s.planOrder n).outer = s.outer := by
  simp only [State.planOrder]
  repeat' split
  all_goals simp
@[simp] theorem State.planGuard_outer (n : SiteId) : (s.planGuard n).outer = s.outer := by
  simp only [State.planGuard]
  repeat' split
  all_goals simp
@[simp] theorem State.afterGrant_outer (n : SiteId) : (s.afterGrant n).outer = s.outer := by
  simp only [State.afterGrant]
  repeat' split
  all_goals simp
@[simp] theorem State.runWalks_outer (fuel : Nat) (granted : List SiteId) : (State.runWalks fuel granted s).outer = s.outer := by
  induction fuel generalizing s granted with
  | zero => rfl
  | succ f ih =>
    simp only [State.runWalks]
    repeat' split
    all_goals simp [ih]

@[simp] theorem State.settleWalks_outer : (s.settleWalks).outer = s.outer := by
  simp only [State.settleWalks]
  simp

/-! ## Orders -/

@[simp] theorem State.grantNow_outer (n : SiteId) (rows : List RowId) : (s.grantNow n rows).outer = s.outer := by
  simp only [State.grantNow]
  simp
@[simp] theorem State.decideClaim_outer (n : SiteId) (rows : List RowId) : (s.decideClaim n rows).outer = s.outer := by
  simp only [State.decideClaim]
  repeat' split
  all_goals simp
@[simp] theorem State.takeOrder_outer (n : SiteId) (o : Order) : (s.takeOrder n o).outer = s.outer := rfl
@[simp] theorem State.nameFor_outer (n : SiteId) (d c : List PathId) : (s.nameFor n d c).outer = s.outer := by
  simp only [State.nameFor]
  simp
@[simp] theorem State.startSwitch_outer (n : SiteId) (o : SwitchOperands) : (s.startSwitch n o).outer = s.outer := by
  simp only [State.startSwitch]
  repeat' split
  all_goals simp
@[simp] theorem State.startPark_outer (n : SiteId) : (s.startPark n).outer = s.outer := by
  simp only [State.startPark]
  repeat' split
  all_goals simp
@[simp] theorem State.startVerify_outer (n : SiteId) : (s.startVerify n).outer = s.outer := by
  simp only [State.startVerify]
  repeat' split
  all_goals simp
@[simp] theorem State.claimScan_outer (n : SiteId) (o : ScanOperands) : (s.claimScan n o).outer = s.outer := by
  simp only [State.claimScan]
  repeat' split
  all_goals simp
@[simp] theorem State.startScan_outer (n : SiteId) (o : ScanOperands) : (s.startScan n o).outer = s.outer := by
  simp only [State.startScan]
  repeat' split
  all_goals simp
@[simp] theorem State.startSiteOrder_outer (n : SiteId) (o : Order) : (s.startSiteOrder n o).outer = s.outer := by
  simp only [State.startSiteOrder]
  repeat' split
  all_goals simp
@[simp] theorem State.endService_outer (c : Code) (i : Option Nat) : (s.endService c i).outer = s.outer := by
  unfold State.endService
  rw [State.endOrder_outer]
  refine outer_ext ?_ ?_ ?_ ?_ ?_ ?_ <;> simp only []

@[simp] theorem State.endServiceMemory_outer (i : Nat) : (s.endServiceMemory i).outer = s.outer := by
  simp only [State.endServiceMemory, State.endService_outer, State.modLane_outer]

@[simp] theorem State.serviceIssue_outer (o : ServiceOrder) (r : MemReq) : (s.serviceIssue o r).outer = s.outer := rfl
@[simp] theorem State.readEntry_outer (l : Addr) (c k : Nat) : (s.readEntry l c k).outer = s.outer := by simp only [State.readEntry, State.serviceIssue_outer]

@[simp] theorem State.saveTransfer_outer (j : Nat) : (s.saveTransfer j).outer = s.outer := by simp only [State.saveTransfer, State.serviceIssue_outer]

@[simp] theorem State.readTransfer_outer (j : Nat) : (s.readTransfer j).outer = s.outer := by simp only [State.readTransfer, State.serviceIssue_outer]

@[simp] theorem State.startDefine_outer (l : Addr) (c : Nat) : (s.startDefine l c).outer = s.outer := by
  simp only [State.startDefine]
  repeat' split
  all_goals simp
@[simp] theorem State.startUndefine_outer (first count : Nat) : (s.startUndefine first count).outer = s.outer := by
  have h := s.undefineFrom_outer first count
  simp only [State.startUndefine]
  split
  · simp
  · split <;> rename_i e <;> rw [e] at h <;> simpa using h

@[simp] theorem State.startWearClear_outer (a b : Nat) : (s.startWearClear a b).outer = s.outer := by
  unfold State.startWearClear
  split <;> rfl

@[simp] theorem State.startServiceOrder_outer (k : OrderKind) (ops : List Byte) : (s.startServiceOrder k ops).outer = s.outer := by
  simp only [State.startServiceOrder]
  repeat' split
  all_goals simp
@[simp] theorem State.serviceAccessDone_outer : (s.serviceAccessDone).outer = s.outer := by
  refine outer_ext ?_ ?_ ?_ ?_ ?_ ?_ <;> simp only [State.serviceAccessDone]

@[simp] theorem State.entryRead_outer (l : Addr) (c k : Nat) (r : Option (List Byte)) : (s.entryRead l c k r).outer = s.outer := by
  cases r with
  | none => exact s.serviceAccessDone.endServiceMemory_outer k
  | some bytes =>
    have h := s.serviceAccessDone.takeEntry_outer (definitionEntry bytes)
    rw [State.serviceAccessDone_outer] at h
    unfold State.entryRead
    dsimp only
    split <;> rename_i e <;> rw [e] at h
    · simpa using h
    · repeat' split
      all_goals simpa using h

@[simp] theorem State.saveDone_outer (j : Nat) (ok : Bool) : (s.saveDone j ok).outer = s.outer := by
  simp only [State.saveDone]
  repeat' split
  all_goals simp
@[simp] theorem State.abortContext_outer (n : SiteId) (p : Bool) : (s.abortContext n p).outer = s.outer := by
  simp only [State.abortContext]
  split <;> split <;> simp

@[simp] theorem State.abortService_outer : (s.abortService).outer = s.outer := by
  unfold State.abortService
  split <;> rfl

@[simp] theorem State.abortOrder_outer (n : LaneId) (p : Bool) : (s.abortOrder n p).outer = s.outer := by
  simp only [State.abortOrder]
  repeat' split
  all_goals simp
@[simp] theorem State.skipLane_outer (n : LaneId) : (s.skipLane n).outer = s.outer := by
  simp only [State.skipLane]
  repeat' split
  all_goals simp
@[simp] theorem State.resetLaneCommand_outer (n : LaneId) : (s.resetLaneCommand n).outer = s.outer := by
  simp only [State.resetLaneCommand]
  repeat' split
  all_goals simp
@[simp] theorem State.resumeLane_outer (n : LaneId) : (s.resumeLane n).outer = s.outer := by
  simp only [State.resumeLane]
  simp
@[simp] theorem State.parkLane_outer (n : LaneId) : (s.parkLane n).outer = s.outer := by
  simp only [State.parkLane]
  repeat' split
  all_goals simp
@[simp] theorem State.handOver_outer (n : LaneId) (k : OrderKind) (b : List Byte) : (s.handOver n k b).outer = s.outer := by
  simp only [State.handOver]
  repeat' split
  all_goals simp
@[simp] theorem State.abortAtStart_outer (n : LaneId) (k : OrderKind) (b : List Byte) : (s.abortAtStart n k b).outer = s.outer := by
  simp only [State.abortAtStart]
  simp
@[simp] theorem State.badKind_outer (n : LaneId) : (s.badKind n).outer = s.outer := by
  simp only [State.badKind]
  simp
@[simp] theorem State.checkKind_outer (n : LaneId) (b : List Byte) : (s.checkKind n b).outer = s.outer := by
  simp only [State.checkKind]
  repeat' split
  all_goals simp
@[simp] theorem State.takenDone_outer (n : LaneId) (ok : Bool) : (s.takenDone n ok).outer = s.outer := by
  simp only [State.takenDone]
  repeat' split
  all_goals simp

end Sys2Proof.Machine
end

