-- ==== Sys2Proof/Laws/Matrix.lean ====
section
/-! SUPPORT. What the bay link and the passages leave of the wear counters, of the WORN and RETIRED marks and of the configuration
copies. One lemma per operation that touches none of them. -/

namespace Sys2Proof.Machine

/-- The relay health unit without its SUSPECT marks, and the configuration copies. -/
def Outer.matrix (o : Outer) : Health × ConfigCopies := ({ o.health with suspect := [] }, o.cfg)

theorem matrix_ext {s t : State} (health : { t.health with suspect := [] } = { s.health with suspect := [] }) (cfg : t.cfg = s.cfg) :
    t.outer.matrix = s.outer.matrix := by
  simp only [Outer.matrix, State.outer, health, cfg]

/-- A projection of the outer state that every step of a fold keeps is kept by the fold. -/
theorem foldl_matrix {β : Type} (f : State → β → State) (h : ∀ t x, (f t x).outer.matrix = t.outer.matrix) (xs : List β)
    (s : State) : (xs.foldl f s).outer.matrix = s.outer.matrix := foldl_keeps (fun t => t.outer.matrix) f h xs s

variable (s : State)


/-! ## Bays -/

@[simp] theorem State.modBay_matrix (b : BayId) (f : Bay → Bay) : (s.modBay b f).outer.matrix = s.outer.matrix := rfl
@[simp] theorem State.pumpBay_matrix (b : BayId) : (s.pumpBay b).outer.matrix = s.outer.matrix := by
  simp only [State.pumpBay]
  repeat' split
  all_goals simp
@[simp] theorem State.writeBayStatus_matrix (b : BayId) (c : BitVec 7) : (s.writeBayStatus b c).outer.matrix = s.outer.matrix := by
  simp only [State.writeBayStatus]
  simp
@[simp] theorem State.announceBay_matrix (b : BayId) : (s.announceBay b).outer.matrix = s.outer.matrix := by
  simp only [State.announceBay]
  repeat' split
  all_goals simp
@[simp] theorem State.dropImage_matrix (b : BayId) : (s.dropImage b).outer.matrix = s.outer.matrix := rfl
@[simp] theorem State.enterBay_matrix (b : BayId) (st : BayState) (r : BitVec 3) : (s.enterBay b st r).outer.matrix = s.outer.matrix := by
  simp only [State.enterBay]
  repeat' split
  all_goals simp
@[simp] theorem State.startKeepAlive_matrix (b : BayId) : (s.startKeepAlive b).outer.matrix = s.outer.matrix := rfl
@[simp] theorem State.withdrawWaves_matrix (b : BayId) : (s.withdrawWaves b).outer.matrix = s.outer.matrix := by
  refine matrix_ext ?_ ?_ <;> simp only [State.withdrawWaves]
@[simp] theorem State.dropReaches_matrix (r : Bool) (c : Code) (n : SiteId) : (s.dropReaches r c n).outer.matrix = s.outer.matrix := by
  simp only [State.dropReaches]
  repeat' split
  all_goals simp
@[simp] theorem State.bayDrop_matrix (b : BayId) (st : BayState) (r : BitVec 3) (c : Code) : (s.bayDrop b st r c).outer.matrix = s.outer.matrix := by
  simp only [State.bayDrop, State.announceBay_matrix]
  rw [foldl_matrix _ fun t n => t.dropReaches_matrix _ _ n]
  simp

@[simp] theorem State.bayFaults_matrix (b : BayId) : (s.bayFaults b).outer.matrix = s.outer.matrix := by
  unfold State.bayFaults
  split <;> simp
@[simp] theorem State.bayHolds_matrix (b : BayId) (r : BitVec 3) : (s.bayHolds b r).outer.matrix = s.outer.matrix := by
  simp only [State.bayHolds]
  simp
@[simp] theorem State.takeReasons_matrix (b : BayId) (r : BitVec 3) : (s.takeReasons b r).outer.matrix = s.outer.matrix := by
  simp only [State.takeReasons]
  repeat' split
  all_goals simp

/-! ## The link -/

@[simp] theorem State.freeLink_matrix : (s.freeLink).outer.matrix = s.outer.matrix := rfl
@[simp] theorem State.setPoll_matrix (p : PollState) : (s.setPoll p).outer.matrix = s.outer.matrix := rfl
@[simp] theorem State.sendFrame_matrix (f : LinkFrame) : (s.sendFrame f).outer.matrix = s.outer.matrix := by
  unfold State.sendFrame
  dsimp only
  split <;> rfl

@[simp] theorem State.contextWaveGranted_matrix (n : SiteId) (w : Wave) : (s.contextWaveGranted n w).outer.matrix = s.outer.matrix := by
  simp only [State.contextWaveGranted]
  repeat' split
  all_goals simp
@[simp] theorem State.grantWave_matrix (o : FrameOwner) (w : Wave) : (s.grantWave o w).outer.matrix = s.outer.matrix := by
  simp only [State.grantWave]
  simp
@[simp] theorem State.grantLaneFrame_matrix (p : Fin 9) (o : LaneOffer) : (s.grantLaneFrame p o).outer.matrix = s.outer.matrix := by
  unfold State.grantLaneFrame
  dsimp only
  split
  · simp only [State.grantWave_matrix, State.contextWaveGranted_matrix]; rfl
  · simp only [State.sendFrame_matrix, State.modContext_outer]; rfl
  · simp only [State.grantWave_matrix]; rfl
  · rfl

@[simp] theorem State.grantByRank_matrix : (s.grantByRank).outer.matrix = s.outer.matrix := by
  simp only [State.grantByRank]
  repeat' split
  all_goals simp
@[simp] theorem State.grantDiscovery_matrix (b : BayId) : (s.grantDiscovery b).outer.matrix = s.outer.matrix := by
  unfold State.grantDiscovery
  rw [State.sendFrame_matrix]
  rfl

@[simp] theorem State.grantLink_matrix : (s.grantLink).outer.matrix = s.outer.matrix := by
  simp only [State.grantLink]
  repeat' split
  all_goals simp
@[simp] theorem State.endPollSequence_matrix : (s.endPollSequence).outer.matrix = s.outer.matrix := rfl
@[simp] theorem State.followUp_matrix (bs : List BayId) : (s.followUp bs).outer.matrix = s.outer.matrix := by
  induction bs generalizing s with
  | nil => rfl
  | cons b bs ih =>
    simp only [State.followUp]
    split <;> simp [ih]

@[simp] theorem State.dropFollowUp_matrix : (s.dropFollowUp).outer.matrix = s.outer.matrix := by
  simp only [State.dropFollowUp]
  repeat' split
  all_goals simp
@[simp] theorem State.statusFollowedUp_matrix : (s.statusFollowedUp).outer.matrix = s.outer.matrix := by
  simp only [State.statusFollowedUp]
  repeat' split
  all_goals simp
@[simp] theorem State.slotsRead_matrix (v : Vector (Option Byte) 8) : (s.slotsRead v).outer.matrix = s.outer.matrix := by
  simp only [State.slotsRead]
  repeat' split
  all_goals simp
@[simp] theorem State.ownerGoesOn_matrix (o : FrameOwner) : (s.ownerGoesOn o).outer.matrix = s.outer.matrix := by
  simp only [State.ownerGoesOn]
  repeat' split
  all_goals simp

/-! ## Acknowledgements and replies -/

@[simp] theorem State.closeRelays_matrix (r : List RelayNo) : (s.closeRelays r).outer.matrix = s.outer.matrix := rfl
@[simp] theorem State.openRelays_matrix (r : List RelayNo) : (s.openRelays r).outer.matrix = s.outer.matrix := rfl
@[simp] theorem State.applyWave_matrix (w : Wave) : (s.applyWave w).outer.matrix = s.outer.matrix := by
  simp only [State.applyWave]
  repeat' split
  all_goals simp
@[simp] theorem State.setWindow_matrix (w : Wave) : (s.setWindow w).outer.matrix = s.outer.matrix := by
  unfold State.setWindow
  split <;> rfl

@[simp] theorem State.countWave_matrix (n : SiteId) (w : Wave) : (s.countWave n w).outer.matrix = s.outer.matrix := rfl
@[simp] theorem State.cleanupAcked_matrix (n : SiteId) (w : Wave) : (s.cleanupAcked n w).outer.matrix = s.outer.matrix := by
  simp only [State.cleanupAcked]
  repeat' split
  all_goals simp
@[simp] theorem State.startWaveTimer_matrix (n : SiteId) (w : Wave) : (s.startWaveTimer n w).outer.matrix = s.outer.matrix := by
  simp only [State.startWaveTimer]
  repeat' split
  all_goals simp
@[simp] theorem State.contextAcked_matrix (n : SiteId) (w : Wave) : (s.contextAcked n w).outer.matrix = s.outer.matrix := by
  simp only [State.contextAcked]
  repeat' split
  all_goals simp
@[simp] theorem State.setSuspect_matrix (r : RelayNo) (v : Bool) : (s.setSuspect r v).outer.matrix = s.outer.matrix := rfl
@[simp] theorem State.compareRelay_matrix (n : SiteId) (r : RelayNo) (v : Bool) : (s.compareRelay n r v).outer.matrix = s.outer.matrix := by
  simp only [State.compareRelay]
  repeat' split
  all_goals simp
@[simp] theorem State.compareSense_matrix (n : SiteId) (b : BayId) (gs : List Nat) (ws : List Byte) : (s.compareSense n b gs ws).outer.matrix = s.outer.matrix := 
    foldl_matrix _ (fun t r => t.compareRelay_matrix n r _) _ _

@[simp] theorem State.afterSense_matrix (n : SiteId) : (s.afterSense n).outer.matrix = s.outer.matrix := by
  simp only [State.afterSense]
  repeat' split
  all_goals simp
@[simp] theorem State.nakWave_matrix (o : FrameOwner) (b : BayId) (r : BitVec 3) : (s.nakWave o b r).outer.matrix = s.outer.matrix := by
  simp only [State.nakWave]
  simp
@[simp] theorem State.senseReplied_matrix (o : FrameOwner) (b : BayId) (gs : List Nat) (ws : List Byte) : (s.senseReplied o b gs ws).outer.matrix = s.outer.matrix := by
  simp only [State.senseReplied]
  repeat' split
  all_goals simp
@[simp] theorem State.statusReplied_matrix (o : FrameOwner) (b : BayId) (r : BitVec 3) : (s.statusReplied o b r).outer.matrix = s.outer.matrix := by
  simp only [State.statusReplied]
  repeat' split
  all_goals simp
@[simp] theorem State.finalFailure_matrix (o : FrameOwner) (b : BayId) : (s.finalFailure o b).outer.matrix = s.outer.matrix := by
  simp only [State.finalFailure]
  repeat' split
  all_goals simp
@[simp] theorem State.reprobeFailed_matrix (b : BayId) : (s.reprobeFailed b).outer.matrix = s.outer.matrix := by
  simp only [State.reprobeFailed]
  repeat' split
  all_goals simp
@[simp] theorem State.recordModel_matrix (b : BayId) (m : Byte) : (s.recordModel b m).outer.matrix = s.outer.matrix := rfl
@[simp] theorem State.reprobed_matrix (b : BayId) (m : Byte) (rd : Bool) (r : BitVec 3) : (s.reprobed b m rd r).outer.matrix = s.outer.matrix := by
  simp only [State.reprobed]
  repeat' split
  all_goals simp
@[simp] theorem State.reprobeReplied_matrix (b : BayId) (m : Byte) (rd : Bool) (r : BitVec 3) : (s.reprobeReplied b m rd r).outer.matrix = s.outer.matrix := by
  simp only [State.reprobeReplied]
  repeat' split
  all_goals simp

/-! ## Passages -/

@[simp] theorem State.passageIssue_matrix (p : Passage) (r : MemReq) : (s.passageIssue p r).outer.matrix = s.outer.matrix := rfl
@[simp] theorem State.passageAt_matrix (p : Passage) : (s.passageAt p).outer.matrix = s.outer.matrix := rfl
@[simp] theorem State.passageEnds_matrix (d : DeviceState) (c : BitVec 7) : (s.passageEnds d c).outer.matrix = s.outer.matrix := rfl
@[simp] theorem State.writeLaneWords_matrix : (s.writeLaneWords).outer.matrix = s.outer.matrix := 
    foldl_matrix _ (fun t n => congrArg Outer.matrix (t.writeLaneStatus_outer n 0)) _ _

@[simp] theorem State.writeBayWords_matrix : (s.writeBayWords).outer.matrix = s.outer.matrix := foldl_matrix _ (fun t b => t.writeBayStatus_matrix b 0) _ _

@[simp] theorem State.setDiscovery_matrix (d : Discovery) : (s.setDiscovery d).outer.matrix = s.outer.matrix := rfl
@[simp] theorem State.probeBays_matrix : (s.probeBays).outer.matrix = s.outer.matrix := foldl_matrix _ (fun t b => by simp) _ _

@[simp] theorem State.startPass_matrix : (s.startPass).outer.matrix = s.outer.matrix := rfl
@[simp] theorem State.startDiscovery_matrix (c : Fin 3) : (s.startDiscovery c).outer.matrix = s.outer.matrix := by
  unfold State.startDiscovery
  rw [State.passageAt_matrix, State.setDiscovery_matrix, State.probeBays_matrix]
  rfl

@[simp] theorem State.pulseEnded_matrix : (s.pulseEnded).outer.matrix = s.outer.matrix := by
  unfold State.pulseEnded
  rw [State.startPass_matrix, State.probeBays_matrix]
  rfl

@[simp] theorem State.silentAbsent_matrix : (s.silentAbsent).outer.matrix = s.outer.matrix := foldl_matrix _ (fun t b => by simp) _ _

@[simp] theorem State.rateFixed_matrix : (s.rateFixed).outer.matrix = s.outer.matrix := by
  simp only [State.rateFixed]
  simp
@[simp] theorem State.passEnds_matrix : (s.passEnds).outer.matrix = s.outer.matrix := by
  unfold State.passEnds
  split
  · split
    · simp
    · rw [State.startPass_matrix, State.probeBays_matrix]
      rfl
  · simp

@[simp] theorem State.dropWaiting_matrix (b : BayId) : (s.dropWaiting b).outer.matrix = s.outer.matrix := rfl
@[simp] theorem State.bayWaits_matrix (b : BayId) : (s.bayWaits b).outer.matrix = s.outer.matrix := by
  simp only [State.bayWaits]
  repeat' split
  all_goals simp
@[simp] theorem State.discovered_matrix (b : BayId) (m : Byte) (rd : Bool) (r : BitVec 3) : (s.discovered b m rd r).outer.matrix = s.outer.matrix := by
  simp only [State.discovered]
  repeat' split
  all_goals simp
@[simp] theorem State.heldProbed_matrix (b : BayId) (m : Byte) (rd : Bool) (r : BitVec 3) : (s.heldProbed b m rd r).outer.matrix = s.outer.matrix := by
  simp only [State.heldProbed]
  repeat' split
  all_goals simp
@[simp] theorem State.parkClear_matrix : (s.parkClear).outer.matrix = s.outer.matrix := by
  refine matrix_ext ?_ ?_ <;> simp only [State.parkClear, State.freeAllRows, State.parkPaths]

@[simp] theorem State.disableTransfer_matrix (j : Nat) : (s.disableTransfer j).outer.matrix = s.outer.matrix := by
  simp only [State.disableTransfer]
  simp
@[simp] theorem State.afterAborts_matrix : (s.afterAborts).outer.matrix = s.outer.matrix := by
  unfold State.afterAborts
  split <;> rfl

@[simp] theorem State.afterParkWaves_matrix : (s.afterParkWaves).outer.matrix = s.outer.matrix := by
  simp only [State.afterParkWaves]
  repeat' split
  all_goals simp
@[simp] theorem State.afterStatusWords_matrix : (s.afterStatusWords).outer.matrix = s.outer.matrix := by
  simp only [State.afterStatusWords]
  repeat' split
  all_goals simp
@[simp] theorem State.advancePassage_matrix : (s.advancePassage).outer.matrix = s.outer.matrix := by
  simp only [State.advancePassage]
  simp
@[simp] theorem State.finishStep_matrix : (s.finishStep).outer.matrix = s.outer.matrix := by
  simp only [State.finishStep]
  simp
@[simp] theorem State.laneStatusDone_matrix (n : LaneId) (ok : Bool) : (s.laneStatusDone n ok).outer.matrix = s.outer.matrix := by
  simp only [State.laneStatusDone]
  simp
@[simp] theorem State.bayStatusDone_matrix (b : BayId) (ok : Bool) : (s.bayStatusDone b ok).outer.matrix = s.outer.matrix := by
  simp only [State.bayStatusDone]
  simp
@[simp] theorem State.laneAccessFailed_matrix (n : LaneId) (op : LaneOp) : (s.laneAccessFailed n op).outer.matrix = s.outer.matrix := by
  simp only [State.laneAccessFailed]
  repeat' split
  all_goals simp

end Sys2Proof.Machine
end

