-- ==== Sys2Proof/Laws/Quiet.lean ====
section
/-! SUPPORT. What closes an event: it changes nothing where no walk is owed and no passage is in progress. -/

namespace Sys2Proof.Machine

variable (s : State)

/-- With no passage in progress, no passage goes on. -/
theorem advancePassage_idle (h : s.host.passage = .idle) : s.advancePassage = s := by
  simp [State.advancePassage, State.afterAborts, State.afterParkWaves, State.afterStatusWords, h]

/-- With no walk owed, no walk runs. -/
theorem settleWalks_settled (h : s.arbiter.walkOwed = false) : s.settleWalks = s := by
  simp [State.settleWalks, State.runWalks, h]

/-- A quiet state closes its event at once. -/
theorem finishStep_quiet (h : s.Quiet) : s.finishStep = s := by
  rw [State.finishStep, settleWalks_settled s h.walk, advancePassage_idle s h.passage]

end Sys2Proof.Machine
end

