-- ==== Sys2Proof/WellFormed.lean ====
section
/-! DEFINITION. What the operands of a command must satisfy for it to be the command its row names. -/

namespace Sys2Proof

/-- The command codes of Table 12-13. -/
def commandCodes : List (BitVec 8) := [0x01, 0x02, 0x03, 0x04, 0x10, 0x11, 0x12, 0x13, 0x14]

/-- An access to a register names at least one of its bytes (R180). -/
def namesAByte (bytes : BitVec 4) : Bool := bytes != 0

/-- Well-formed commands: a register access names a byte; UNKNOWN_COMMAND carries a code that names no command
(R169); a SENSE reply carries 1–130 sensed words (R156). Every other operand is bounded by its type. -/
def Instr.wellFormed : Instr → Bool
  | .unknownCommand code _ => !commandCodes.contains code
  | .causeRead bytes => namesAByte bytes
  | .causeEnableWrite bytes _ => namesAByte bytes
  | .configAddressWrite _ bytes _ => namesAByte bytes
  | .registerWrite _ bytes _ => namesAByte bytes
  | .senseReply words => decide (1 ≤ words.length) && decide (words.length ≤ 130)
  | _ => true

end Sys2Proof
end

