-- ==== Sys2Proof/Tests/Slice0.lean ====
section
/-! SUPPORT. Tests of the model on small states, and for each statement of the obligations that has hypotheses the concrete states and
operands that meet them, at the boundary values of their ranges. Expected values come from the manual: the rule or the worked example
that each test names. -/

namespace Sys2Proof.Tests

open Sys2Proof Sys2Proof.Machine

/-! ## Small states -/

/-- The part after reset, but in a device state. -/
def inDevice (d : DeviceState) : State := { State.reset with host := { HostInterface.reset with device := d } }

/-- An ENABLED part that is otherwise as after reset. -/
def on : State := inDevice .enabled

/-- The time of a state. -/
def atTime (t : Time) (s : State) : State := { s with now := t }

def withLane (n : LaneId) (l : Lane) : State := on.modLane n fun _ => l

def withContext (n : SiteId) (c : Context) : State := on.modContext n fun _ => c

def withBay (s : State) (b : BayId) (st : BayState) : State := s.modBay b fun bay => { bay with state := st }

/-- The link free at the ceiling rate, bays 0 and 1 ONLINE. -/
def linked (s : State) : State :=
  withBay (withBay { s with link := { s.link with rate := some 0, frame := none } } 0 .online) 1 .online

def withFrame (s : State) (f : LinkFrame) : State := { s with link := { s.link with frame := some f } }

/-- The access that the tests complete, with tag 7. -/
def pendingAccess : MemAccess := { tag := 7, issued := 0, req := .read 0 0 }

/-- A lane in a state, with an access in flight. -/
def busyLane (st : LaneState) (op : LaneOp) : Lane :=
  { Lane.reset with state := st, access := some { op := op, access := pendingAccess } }

/-- The first 64 octets of a record: armed, of a kind, with flags and operands. -/
def recordOctets (kind : Byte) (flags : Byte) (operands : List Byte) : List Byte :=
  ([1, kind, flags, 0] ++ List.replicate 12 0 ++ operands ++ List.replicate 48 0).take 64

def heldRecord (kind flags : Byte) : HeldRecord := { addr := 0x1000, bytes := recordOctets kind flags [] }

/-- What a command leaves, seen through `p`. -/
def after (i : Instr) (s : State) (p : State → Bool) : Bool :=
  match exec i s with
  | .next t => p t
  | .fault _ | .refused _ => false

/-- A list's members one by one. -/
theorem forall_of_all {α : Type} {p : α → Prop} [DecidablePred p] {l : List α} (h : l.all (fun x => decide (p x)) = true) :
    ∀ x ∈ l, p x := by simpa using h
theorem exists_of_any {α : Type} {p : α → Prop} [DecidablePred p] {l : List α} (h : l.any (fun x => decide (p x)) = true) :
    ∃ x ∈ l, p x := by simpa using h

/-! ## The commands' forms -/

theorem test_enable_is_not_unknown : (Instr.unknownCommand 0x01 0).wellFormed = false := by decide
theorem test_strobe_is_not_unknown : (Instr.unknownCommand 0x14 0).wellFormed = false := by decide
theorem test_code_five_is_unknown : (Instr.unknownCommand 0x05 0).wellFormed = true := by decide
theorem test_cause_read_names_a_byte : (Instr.causeRead 0).wellFormed = false := by decide
theorem test_cause_enable_write_names_a_byte : (Instr.causeEnableWrite 0 1).wellFormed = false := by decide
theorem test_config_write_names_a_byte : (Instr.configAddressWrite true 0 1).wellFormed = false := by decide
theorem test_register_write_names_a_byte : (Instr.registerWrite .ident 0 1).wellFormed = false := by decide
theorem test_sense_of_no_group : (Instr.senseReply []).wellFormed = false := by decide
theorem test_sense_of_too_many_groups : (Instr.senseReply (List.replicate 131 0)).wellFormed = false := by simp [Instr.wellFormed]
theorem test_sense_of_every_group : (Instr.senseReply (List.replicate 130 0)).wellFormed = true := by simp [Instr.wellFormed]
theorem test_lane_skip_is_well_formed : (Instr.laneSkip 9).wellFormed = true := by decide

/-- No row of the table has bits. -/
theorem test_no_word_spells_a_command : decodeTableWord 32 1 = none := rfl

/-- Table 12-12, R169: the code stands in bits 7–0 of CONTROL and the argument in bits 31–16. -/
theorem test_control_word : commandOfControl 0xF 0x00051023 = .unknownCommand 0x23 5 := by decide
theorem test_control_lane_reset : commandOfControl 0xF 0x00080011 = .laneReset 8 := by decide
/-- R180: the bytes of CONTROL that are not written are taken as 0. -/
theorem test_control_one_byte : commandOfControl 0x1 0x00080012 = .laneResume 0 := by decide

/-! ## The relays -/

/-- Table 1-1: the relay numbers, coil groups and bits of its five examples. -/
theorem test_table_1_1 :
    ([crosspoint 5 130, isolation 2 5, crosspoint 15 511, isolation 7 15, crosspoint 0 0].map fun n =>
      (n.val, (relayBay n).val, relayIndex n, relayGroup n, relayIndex n % 8)) =
      [(2402, 2, 322, 40, 2), (3109, 2, 1029, 128, 5), (8303, 7, 1023, 127, 7), (8319, 7, 1039, 129, 7), (0, 0, 0, 0, 0)] := by
  decide

/-! ## The registers and the lanes -/

/-- R170: an accepted ENABLE reads 1,280 octets. -/
theorem test_enable_reads_the_block :
    after .enable State.reset (fun t => t.host.device == .enabling && t.host.access == some ⟨0, 0, .read 0 1280⟩) = true := by decide
/-- R169: ENABLE in ENABLED is refused. -/
theorem test_enable_is_refused_when_enabled : after .enable on (fun t => t.host.refused && t.host.device == .enabled) = true := by decide
/-- R172: PARK_ALL. -/
theorem test_park_all : after .parkAll (inDevice .enabled) (fun t => t.host.device == .parking) = true := by decide
/-- R173: DISABLE. -/
theorem test_disable : after .disable (inDevice .enabled) (fun t => t.host.device == .disabling) = true := by decide
/-- R176: RESET_DEVICE and the resets from outside. -/
theorem test_resets : ([Instr.resetDevice, .pcieHotReset, .powerOnReset].map fun i =>
    after i on (fun t => t.host.device == .disabled && t.link.brst)) = [true, true, true] := by decide
/-- R169: a code that names no command. -/
theorem test_unknown_command : after (.unknownCommand 5 0) on (fun t => t.host.refused) = true := by decide
/-- R59: LANE_RESUME. -/
theorem test_lane_resume :
    after (.laneResume 3) (withLane 3 { Lane.reset with state := .halted, halt := some .badLink })
      (fun t => t.lanes[(3 : LaneId)].state == .idle && t.lanes[(3 : LaneId)].halt == none) = true := by decide
/-- R58: LANE_RESET reads the head address field of lane 3's descriptor. -/
theorem test_lane_reset :
    after (.laneReset 3) (withLane 3 { Lane.reset with state := .idle })
      (fun t => (t.lanes[(3 : LaneId)].access.map fun a => a.access.req) == some (.read 0xA0 8)) = true := by decide
/-- R57: LANE_SKIP in OFFSET aborts the record. -/
theorem test_lane_skip :
    after (.laneSkip 3) (withLane 3 { Lane.reset with state := .offset, held := some (heldRecord 1 0) })
      (fun t => t.lanes[(3 : LaneId)].final == .aborted) = true := by decide
/-- R43: LANE_START reads the record that the cursor names. -/
theorem test_lane_start :
    after (.laneStart 8) (withLane 3 { Lane.reset with state := .idle, cursor := .next 0x1000 })
      (fun t => (t.lanes[(3 : LaneId)].access.map fun a => a.access.req) == some (.read 0x1000 64)) = true := by decide
/-- R46: a strobe in RUNNING is missed, and the count saturates. -/
theorem test_strobe_is_missed :
    after (.strobe 8) (withLane 3
        { Lane.reset with state := .running, desc := { LaneDescriptor.reset with mode := .strobed }, missed := 65535 })
      (fun t => t.lanes[(3 : LaneId)].missed == 65535) = true := by decide
/-- R46: an edge on STB is a strobe. -/
theorem test_stb_edge :
    after (.stbEdge 3) (withLane 3 { Lane.reset with state := .running, desc := { LaneDescriptor.reset with mode := .strobed } })
      (fun t => t.lanes[(3 : LaneId)].missed == 1) = true := by decide
/-- R174: the read of CAUSE clears it. -/
theorem test_cause_read :
    after (.causeRead 0xF) { on with host := { on.host with cause := 0x41 } }
      (fun t => t.host.cause == 0 && t.host.causeRead == 0x41) = true := by decide
/-- R174, Table 12-12: CAUSE_ENABLE holds seven bits. -/
theorem test_cause_enable : after (.causeEnableWrite 1 0xFF) on (fun t => t.host.causeEnable == 0x7F) = true := by decide
/-- R168: the low 12 bits of CONFIG_LO read 0. -/
theorem test_config_lo :
    after (.configAddressWrite false 0xF 0x12345678) State.reset (fun t => t.host.configLo == 0x12345000) = true := by decide
/-- R168: a write to IDENT is ignored. -/
theorem test_ident_write : exec (.registerWrite .ident 0xF 1) on = .next on := rfl
/-- R54, R53: a record read in error halts the lane; the causes follow the write of its status word. -/
theorem test_record_read_error :
    after (.recordReadDone 3 7 none) (withLane 3 (busyLane .fetching .recordRead))
      (fun t => t.lanes[(3 : LaneId)].halt == some .memoryRead && t.lanes[(3 : LaneId)].port.causes == causeHalt ||| causeMemory) = true := by decide
/-- R53: the HALT cause follows the write of the status word. -/
theorem test_halt_cause_follows_the_word :
    after (.laneStatusWriteDone 3 7 true)
      (withLane 3 { Lane.reset with port := { access := some pendingAccess, causes := causeHalt, owed := [] } })
      (fun t => t.host.cause == causeHalt) = true := by decide
/-- R55: a misaligned link. -/
theorem test_bad_link :
    after (.linkReadDone 3 7 (some (Vector.replicate 8 1))) (withLane 3 (busyLane .fetching .linkRead))
      (fun t => t.lanes[(3 : LaneId)].halt == some .badLink) = true := by decide
/-- R58: a head address of 0 leaves the cursor EMPTY. -/
theorem test_head_zero :
    after (.headReadDone 3 7 (some (Vector.replicate 8 0))) (withLane 3 (busyLane .fetching .headRead))
      (fun t => t.lanes[(3 : LaneId)].state == .idle && t.lanes[(3 : LaneId)].cursor == .empty) = true := by decide
/-- R49: TAKEN follows the first result write. -/
theorem test_taken_follows_the_result :
    after (.startResultWriteDone 3 7 true) (withLane 3 { busyLane .fetching .startResult with held := some (heldRecord 1 0) })
      (fun t => (t.lanes[(3 : LaneId)].access.map fun a => a.access.req) == some (.write 0x1000 [2])) = true := by decide
/-- R51: the final state follows the result write. -/
theorem test_final_state_follows_the_result :
    after (.endResultWriteDone 3 7 true)
      (withLane 3 { busyLane .running .endResult with held := some (heldRecord 1 0), final := .failed })
      (fun t => (t.lanes[(3 : LaneId)].access.map fun a => a.access.req) == some (.write 0x1000 [4])) = true := by decide
/-- R56: a FAILED record without CONTINUE halts its lane. -/
theorem test_failed_record_halts :
    after (.stateWriteDone 3 7 true)
      (withLane 3 { busyLane .running .finalState with held := some (heldRecord 1 0), final := .failed })
      (fun t => t.lanes[(3 : LaneId)].halt == some .orderFailed && t.lanes[(3 : LaneId)].cursor == .atTail 0x1000) = true := by decide
/-- R56: a failed result write of an order's end owes HALT and MEMORY after the status word, a waiting LANE_RESET or not. -/
theorem test_failed_result_write :
    after (.endResultWriteDone 3 7 false)
      (withLane 3 { busyLane .running .endResult with held := some (heldRecord 1 0), final := .done, deferred := .reset })
      (fun t => t.lanes[(3 : LaneId)].port.causes == causeHalt ||| causeMemory) = true := by decide
/-- R40: a site lane does not accept DEFINE. -/
theorem test_bad_kind :
    after (.takenWriteDone 3 7 true) (withLane 3 { busyLane .fetching .taken with held := some (heldRecord 5 0) })
      (fun t => t.lanes[(3 : LaneId)].final == .failed && t.lanes[(3 : LaneId)].state == .running) = true := by decide
/-- R54: 50,000 µs, and not one less. -/
theorem test_memory_timeout :
    ([49999, 50000].map fun now => after (.memoryAccessTimeout 7) (atTime now (withLane 3 (busyLane .fetching .recordRead)))
      (fun t => t.lanes[(3 : LaneId)].state == .halted)) = [false, true] := by decide

/-! ## The matrix and the relay health unit -/

/-- 9.8: bay 2 with warn threshold 100,000 and retire threshold 1,000,000, row 4 of class 2 with hot weight 16. -/
def wearExample : State :=
  let s := withBay (linked on) 2 .online
  { s with
    cfg := { s.cfg with
      expected := 7, rows := setAt s.cfg.rows 4 ⟨none, 2, true⟩, hotWeights := #v[1, 4, 16, 64]
      bays := setAt s.cfg.bays 2 ⟨1, 1, 1, 16, 0⟩ }
    health := { s.health with
      wear := [(2360, 99998), (2361, 99980), (2362, 99990)], thresholds := #v[⟨0, 0⟩, ⟨100000, 1000000⟩, ⟨0, 0⟩, ⟨0, 0⟩] } }

def wearWave : Wave :=
  { bay := 2, closing := true, relays := [2360, 2361, 2362], span := 4000, bounce := 1500, hot := [2360, 2361, 2362], source := .planned }

def wearFrame : LinkFrame := { bay := 2, body := .wave wearWave [], owner := .context 3, repeated := false }

/-- 9.8: the counters, the WORN marks and the WEAR cause of the first acknowledgement. -/
theorem test_wear_crossing :
    after .waveAck (withFrame wearExample wearFrame)
      (fun t => t.health.wear == [(2360, 100014), (2361, 99996), (2362, 100006)] && t.health.worn == [2360, 2362] &&
        t.image.closed == [2360, 2361, 2362] && t.host.cause == causeWear) = true := by decide

/-- 9.4.1: the seven mismatches of bay 3. -/
def mismatchContext : Context :=
  { Context.reset with
    verifySet := [1100, 1101, 1200, 3301, 3302, 3305, 3400, 3401, 3410, 3415]
    acc := { Accumulators.reset with
      mismatchCount := 7, mismatches := [3301, 3302, 3305, 3400, 3401, 3410, 3415].map fun n => ⟨n, false, true⟩ }
    order := some { kind := .verify, flags := 0, operands := [], hotWait := 0 }, senseDue := [0] }

/-- 9.4.1: the list after the reply of bay 1, with relays 1,100, 1,101 and 1,200 sensed CLOSED and OPEN in the image. -/
theorem test_mismatch_list :
    after (.senseReply [0x30, 0x01])
      (withFrame (withContext 5 mismatchContext) { bay := 1, body := .sense [7, 20], owner := .context 5, repeated := false })
      (fun t => t.contexts[(5 : SiteId)].acc.mismatchCount == 10 &&
        (t.contexts[(5 : SiteId)].acc.mismatches.map fun m => m.relay.val) ==
          [1100, 1101, 1200, 3301, 3302, 3305, 3400, 3401] &&
        t.health.suspect == [1100, 1101, 1200]) = true := by decide

/-! ## The link -/

/-- R98: the group word of a wave carries the image's other relays of the group. -/
theorem test_group_word :
    after .linkGrant
      ((linked on).modContext 0 fun _ => { Context.reset with due := [⟨0, true, [1], 5, 0, [], .planned⟩] } : State)
      (fun t => t.link.frame == some ⟨0, .wave ⟨0, true, [1], 5, 0, [], .planned⟩ [(0, 2)], .context 0, false⟩) = true := by decide
/-- R157: a NAK holds the bay. -/
theorem test_nak_holds_the_bay :
    after (.waveNak 1) (withFrame wearExample wearFrame)
      (fun t => t.link.bays[(2 : BayId)].state == .held && t.link.bays[(2 : BayId)].reasons == 1 && t.image.closed == []) = true := by
  decide
/-- R157: a frame is sent twice at most. -/
theorem test_frame_is_repeated :
    after (.frameFirstFailure .noReply) (withFrame wearExample wearFrame)
      (fun t => t.link.frame == some { wearFrame with repeated := true }) = true := by decide
theorem test_second_failure_faults_the_bay :
    after (.frameFinalFailure .badCheck) (withFrame wearExample { wearFrame with repeated := true })
      (fun t => t.link.bays[(2 : BayId)].state == .faulted) = true := by decide
/-- R159: a HELD bay whose frame fails becomes FAULTED, and no path changes. -/
theorem test_held_bay_faults :
    after (.frameFinalFailure .noReply)
      ((withFrame (withBay (linked on) 1 .held) ⟨1, .status, .keepAlive, true⟩).modPath 1 fun p => { p with state := .broken, rowSet := [15] })
      (fun t => t.link.bays[(1 : BayId)].state == .faulted && t.paths[(1 : PathId)].state == .broken) = true := by decide
/-- R157, R181: a CLEAR reply with acknowledgement code 1 is good, one with code 2 is not. -/
theorem test_clear_reply_codes :
    ([1, 2].map fun code =>
      let octets : List Byte := [frameHeader 1 .clear, code]
      (⟨1, .clear, .followUp, false⟩ : LinkFrame).replyEvent (octets ++ [checkOctet octets])) =
      [.inr .clearReply, .inl .badAckCode] := by decide
/-- R160: a STATUS reply with a reason. -/
theorem test_status_reply :
    after (.statusReply 2) (withFrame (linked on) ⟨1, .status, .keepAlive, false⟩)
      (fun t => t.link.bays[(1 : BayId)].state == .held) = true := by decide
/-- R162: a slot with a wrong check octet counts as a request. -/
theorem test_poll_slots :
    after (.pollSlotsEnd #v[some 0xF0, some 0x00, none, none, none, none, none, none])
      { linked on with link := { (linked on).link with poll := .polling, frame := some ⟨0, .poll, .poll, false⟩ } }
      (fun t => t.link.poll == .followUps [1] false) = true := by decide
/-- R163: 1 ms. -/
theorem test_keepalive :
    ([999, 1000].map fun now => after (.keepaliveExpiry 1)
      (atTime now ((linked on).modBay 1 fun bay => { bay with keepAlive := some 0 }))
      (fun t => t.link.bays[(1 : BayId)].keepAliveDue)) = [false, true] := by decide
/-- R164: 100 ms. -/
theorem test_reprobe_timer :
    ([99999, 100000].map fun now => after (.reprobeTimerExpiry 1)
      (atTime now (on.modBay 1 fun bay => { bay with state := .faulted, reprobe := some 0 }))
      (fun t => t.link.bays[(1 : BayId)].reprobeDue)) = [false, true] := by decide
/-- R164: a re-probe answered by another model. -/
theorem test_reprobe_of_another_model :
    after (.reprobeReply 9 1 0) (withFrame (on.modBay 1 fun bay => { bay with state := .faulted }) ⟨1, .probe, .reprobe, false⟩)
      (fun t => t.link.bays[(1 : BayId)].state == .absent && t.link.bays[(1 : BayId)].mismatch) = true := by decide
/-- R117: a LIVE edge on a row whose enable is 0. -/
theorem test_live_edge : after (.liveEdge 5 true) on (fun t => t.live.line[(5 : RowId)] && !t.rowLive 5) = true := by decide
/-- R162: SRQ. -/
theorem test_srq : after (.srqChange true) on (fun t => t.link.srq) = true := by decide
/-- R12: the end of a busy window changes no register. -/
theorem test_busy_window_end : exec (.busyWindowEnd 1) on = .next on := rfl

/-! ## States that meet the hypotheses of the statements: the registers and the lanes -/

theorem witness_queue_empty : State.reset.pending = [] := rfl
theorem witness_resets : isReset .powerOnReset = true ∧ isReset .pcieHotReset = true ∧ isReset .resetDevice = true := by decide
theorem witness_enable : State.reset.host.device = .disabled := rfl

/-- Each way of a refusal: a device state, the first lane number that is none, a lane that is not HALTED, an unknown code. -/
theorem witness_refusals :
    on.host.device ≠ .disabled ∧ State.reset.host.device ≠ .enabled ∧ 8 < (9 : BitVec 16).toNat ∧
      (8 : BitVec 16).toNat = (8 : LaneId).val ∧ on.lanes[(8 : LaneId)].state ≠ .halted := by decide

/-- PARK_ALL and DISABLE: an IDLE lane, and a RUNNING lane with an access in flight. -/
theorem witness_park_all :
    on.host.device = .enabled ∧ (withLane 0 { Lane.reset with state := .idle }).lanes[(0 : LaneId)].state = .idle ∧
      (withLane 8 (busyLane .running .endResult)).lanes[(8 : LaneId)].state = .running ∧
      (withLane 8 (busyLane .running .endResult)).lanes[(8 : LaneId)].access.isSome = true := by decide

theorem witness_interrupt :
    ∃ k, ({ on with host := { on.host with cause := 0x40, causeEnable := 0x40 } } : State).host.cause.getLsbD k = true :=
  ⟨6, rfl⟩

theorem witness_config_write : State.reset.host.device = .disabled ∧ on.host.device ≠ .disabled := by decide

def halted (n : LaneId) : State := withLane n { Lane.reset with state := .halted, halt := some .parked }

theorem witness_lane_resume :
    (8 : BitVec 16).toNat = (8 : LaneId).val ∧ (halted 8).host.device = .enabled ∧ (halted 8).lanes[(8 : LaneId)].state = .halted ∧
      on.lanes[(8 : LaneId)].state ≠ .halted := by decide

/-- Lane 8 of the mask 0x100 starts; lane 0 is not in the mask. -/
theorem witness_lane_start :
    let s := withLane 8 { Lane.reset with state := .idle, cursor := .atTail 0x80 }
    (0x100 : BitVec 16).getLsbD 8 = true ∧ s.lanes[(8 : LaneId)].desc.mode = .free ∧ s.lanes[(8 : LaneId)].state = .idle ∧
      s.lanes[(8 : LaneId)].pendingStart = false ∧ s.lanes[(8 : LaneId)].cursor ≠ .empty ∧
      (0x100 : BitVec 16).getLsbD 0 = false := by decide

/-- A STROBED lane that takes its strobe, one that counts it, and one that does neither. -/
def strobedLane (st : LaneState) (c : Cursor) : Lane :=
  { Lane.reset with state := st, cursor := c, desc := { LaneDescriptor.reset with mode := .strobed } }

theorem witness_strobes :
    let taken := (withLane 7 (strobedLane .idle (.next 0x80))).lanes[siteLane 7]
    let counted := (withLane 7 (strobedLane .running (.next 0x80))).lanes[siteLane 7]
    let unused := (withLane 7 (strobedLane .idle .empty)).lanes[siteLane 7]
    (taken.desc.mode = .strobed ∧ taken.state = .idle ∧ taken.cadenceTimer = none ∧ taken.cursor ≠ .empty) ∧
      (counted.desc.mode = .strobed ∧ counted.state = .running) ∧ (unused.state = .idle ∧ unused.cursor = .empty) ∧
      (0x80 : BitVec 16).getLsbD 7 = true ∧ (0x80 : BitVec 16).getLsbD 0 = false := by decide

theorem quiet_on : on.Quiet := ⟨rfl, rfl⟩
theorem quiet_lane (n : LaneId) (l : Lane) : (withLane n l).Quiet := ⟨rfl, rfl⟩
theorem quiet_context (n : SiteId) (c : Context) : (withContext n c).Quiet := ⟨rfl, rfl⟩

/-- LANE_SKIP on an IDLE lane, during the writes of an order start, and in OFFSET. -/
theorem witness_lane_skip :
    (8 : BitVec 16).toNat = (8 : LaneId).val ∧ (withLane 8 { Lane.reset with state := .idle }).lanes[(8 : LaneId)].state = .idle ∧
      (withLane 8 (busyLane .fetching .taken)).lanes[(8 : LaneId)].state = .fetching ∧
      (withLane 8 (busyLane .fetching .taken)).lanes[(8 : LaneId)].access = some ⟨.taken, pendingAccess⟩ ∧
      (withLane 8 (busyLane .fetching .taken)).lanes[(8 : LaneId)].deferred = .none ∧
      (withLane 7 { Lane.reset with state := .offset }).lanes[(7 : LaneId)].state = .offset ∧
      (withLane 7 { Lane.reset with state := .offset }).lanes[(7 : LaneId)].access = none := by decide

def aSwitch : Order := { kind := .switch, flags := 0, operands := [], hotWait := 5 }

/-- Lane and context 7 run a SWITCH that has taken no ending. -/
def running : State :=
  (withLane 7 { Lane.reset with state := .running, held := some (heldRecord 1 0) }).modContext 7 fun _ =>
    { Context.reset with phase := .settle, order := some aSwitch, passed := true }

theorem going_running : Going running 7 := ⟨rfl, rfl, rfl⟩
theorem quiet_running : running.Quiet := ⟨rfl, rfl⟩
theorem no_waiting_running : NotWaiting running 7 := fun _ h => by cases h

theorem witness_lane_skip_aborts :
    (7 : BitVec 16).toNat = (7 : SiteId).val ∧ running.host.device = .enabled ∧ running.lanes[siteLane 7].state = .running ∧
      running.lanes[siteLane 7].access = none ∧ running.contexts[(7 : SiteId)].scanPhase = .none := by decide

theorem witness_lane_reset :
    (withLane 8 { Lane.reset with state := .fetching }).lanes[(8 : LaneId)].state = .fetching ∧
      (withLane 8 { Lane.reset with state := .fetching }).lanes[(8 : LaneId)].access = none ∧
      (withLane 8 (busyLane .running .endResult)).lanes[(8 : LaneId)].access.isSome = true := by decide

/-- A lane with every timer started at 0, and limits of 5, at the times 4 and 5. -/
def timedLane (st : LaneState) : Lane :=
  { Lane.reset with
    state := st, cursor := .next 0x80, pollTimer := some 0, cadenceTimer := some 0, offsetTimer := some 0
    pendingStart := decide (st = .offset)
    desc := { LaneDescriptor.reset with pollInterval := 5, cadence := 5, offsetDelay := 5 } }

def timed (t : Time) (st : LaneState) : State := atTime t (withLane 7 (timedLane st))

theorem witness_lane_timers :
    let l := (timed 4 .idle).lanes[(7 : LaneId)]
    (l.pollTimer = some 0 ∧ l.cadenceTimer = some 0 ∧ l.offsetTimer = some 0 ∧ l.state = .idle ∧ l.pendingStart = false ∧
      l.cursor ≠ .empty ∧ (timed 4 .idle).host.device = .enabled) ∧
      ((timed 4 .idle).now - 0).toNat < l.desc.pollInterval.toNat ∧ l.desc.pollInterval.toNat ≤ ((timed 5 .idle).now - 0).toNat ∧
      ((timed 4 .idle).now - 0).toNat < l.desc.cadence.toNat ∧ l.desc.cadence.toNat ≤ ((timed 5 .idle).now - 0).toNat ∧
      ((timed 4 .offset).now - 0).toNat < l.desc.offsetDelay.toNat ∧ l.desc.offsetDelay.toNat ≤ ((timed 5 .offset).now - 0).toNat ∧
      (7 : LaneId) = siteLane 7 ∧ (timed 5 .offset).lanes[(7 : LaneId)].state = .offset ∧
      (timed 5 .offset).lanes[(7 : LaneId)].access = none := by decide

/-- Lanes that wait for a completion, none with a waiting command. -/
theorem witness_reads :
    (∀ op ∈ [LaneOp.recordRead, .linkRead, .endLinkRead, .headRead, .taken, .startResult, .endResult, .finalState],
      (withLane 8 (busyLane .fetching op)).lanes[(8 : LaneId)].access = some ⟨op, pendingAccess⟩ ∧
        (withLane 8 (busyLane .fetching op)).lanes[(8 : LaneId)].deferred = .none) := by decide

/-- An armed record and one that is not. -/
theorem witness_record : (Vector.replicate 64 (1 : Byte))[0] = 1 ∧ (Vector.replicate 64 (2 : Byte))[0] ≠ 1 := by decide

/-- The clauses of a record read: FREE without and with a cadence timer, and STROBED at its offset's end and before it. -/
theorem witness_record_clauses :
    (busyLane .fetching .recordRead).desc.mode = .free ∧ (busyLane .fetching .recordRead).cadenceTimer = none ∧
      (timedLane .fetching).desc.mode = .free ∧ (timedLane .fetching).cadenceTimer ≠ none ∧
      (strobedLane .fetching (.next 0x80)).desc.mode = .strobed ∧
      (5 : BitVec 16).toNat ≤ ((5 : Time) - 0).toNat ∧ ((4 : Time) - 0).toNat < (5 : BitVec 16).toNat := by decide

/-- A link of 0, the lowest aligned link, and misaligned ones on both sides of it. -/
theorem witness_links :
    let link := fun v : Byte => le64 (v :: List.replicate 7 0) 0
    link 0 = 0 ∧ (link 0x80 ≠ 0 ∧ (link 0x80).toNat % 128 = 0) ∧ (link 0x7F).toNat % 128 ≠ 0 ∧ (link 0x81).toNat % 128 ≠ 0 := by
  decide

theorem witness_waiting_commands :
    let s := fun d : Deferred => withLane 8 { busyLane .fetching .headRead with deferred := d }
    (s .reset).lanes[(8 : LaneId)].access = some ⟨.headRead, pendingAccess⟩ ∧ (s .reset).lanes[(8 : LaneId)].deferred = .reset ∧
      (s .park).lanes[(8 : LaneId)].deferred = .park := by decide

/-- SCAN is accepted by lane 7 and not by lane 8, DEFINE by lane 8 and not by lane 7. -/
theorem witness_kinds :
    KindAccepted 7 4 ∧ ¬ KindAccepted 8 4 ∧ KindAccepted 8 5 ∧ ¬ KindAccepted 7 5 ∧ ¬ KindAccepted 8 10 ∧ ¬ KindAccepted 7 0 := by
  simp [KindAccepted, serviceLane]

theorem witness_final_state :
    let s := withLane 8 { busyLane .running .finalState with held := some (heldRecord 9 3), final := .failed }
    s.lanes[(8 : LaneId)].access = some ⟨.finalState, pendingAccess⟩ ∧ s.lanes[(8 : LaneId)].held = some (heldRecord 9 3) ∧
      s.lanes[(8 : LaneId)].final = .failed ∧ (le16 (heldRecord 9 3).bytes 2).getLsbD 1 = true ∧
      (le16 (heldRecord 9 3).bytes 2).getLsbD 0 = true ∧ (le16 (heldRecord 9 0).bytes 2).getLsbD 1 = false := by decide

/-- A lane's and a bay's status word in flight, and the last word of a passage. -/
def lastWord (p : Passage) : State :=
  { (withLane 8 { Lane.reset with port := { access := some pendingAccess, causes := causeHalt, owed := [] } }) with
    host := { on.host with passage := p } }

theorem witness_status_words :
    (lastWord .idle).host.passage = .idle ∧ (lastWord .idle).lanes[(8 : LaneId)].port.access = some pendingAccess ∧
      (on.modBay 7 fun b => { b with port := ⟨some pendingAccess, 0, [causeBay]⟩ }).link.bays[(7 : BayId)].port.access =
        some pendingAccess ∧
      (on.modBay 7 fun b => { b with port := ⟨some pendingAccess, 0, [causeBay]⟩ }).link.bays[(7 : BayId)].port.owed =
        [causeBay] := by decide

theorem witness_last_status_word (p : Passage) :
    (lastWord p).host.passage = p ∧ (lastWord p).lanes[(8 : LaneId)].port.access = some pendingAccess ∧
      (lastWord p).lanes[(8 : LaneId)].port.owed = [] ∧
      (∀ k : LaneId, k ≠ 8 → (lastWord p).lanes[k].port.access = none ∧ (lastWord p).lanes[k].port.owed = []) ∧
      ∀ b : BayId, (lastWord p).link.bays[b].port.access = none ∧ (lastWord p).link.bays[b].port.owed = [] :=
  ⟨rfl, rfl, rfl, (by decide : ∀ k : LaneId, k ≠ 8 →
      (lastWord .idle).lanes[k].port.access = none ∧ (lastWord .idle).lanes[k].port.owed = []),
    (by decide : ∀ b : BayId, (lastWord .idle).link.bays[b].port.access = none ∧ (lastWord .idle).link.bays[b].port.owed = [])⟩

/-- The one access in flight, of each block, at 49,999 and at 50,000 µs; and a tag that no access has. -/
theorem witness_timeout :
    let passing := { on with host := { on.host with passage := .configRead, access := some pendingAccess } }
    let serving := { on with service := { order := .wearSave 519, access := some pendingAccess, abort := false } }
    let word := on.modBay 7 fun b => { b with port := ⟨some pendingAccess, 0, []⟩ }
    let alone := fun s : State => (s.accesses.filter fun a => a.tag == pendingAccess.tag) = [pendingAccess]
    (∀ op ∈ [LaneOp.recordRead, .linkRead, .endLinkRead, .headRead, .startResult, .taken, .endResult, .finalState],
      alone (withLane 8 (busyLane .fetching op))) ∧ alone (lastWord .idle) ∧ alone word ∧ alone passing ∧ alone serving ∧
      ((atTime 49999 on).now - pendingAccess.issued).toNat < 50000 ∧ 50000 ≤ ((atTime 50000 on).now - pendingAccess.issued).toNat ∧
      ∀ a ∈ (withLane 8 (busyLane .fetching .taken)).accesses, a.tag ≠ 8 := by
  and_intros <;> first | exact forall_of_all (by decide) | decide
theorem witness_errors (op : LaneOp) :
    (withLane 8 (busyLane .fetching op)).ErrorOf pendingAccess (op.errorOf 8 7) ∧
      (lastWord .idle).ErrorOf pendingAccess (.laneStatusWriteDone 8 7 false) ∧
      ({ on with host := { on.host with passage := .configRead, access := some pendingAccess } } : State).ErrorOf pendingAccess
        (.configBlockReadDone 7 none) ∧
      ({ on with service := { order := .wearSave 519, access := some pendingAccess, abort := false } } : State).ErrorOf pendingAccess
        (.wearSaveTransferDone 7 false) :=
  ⟨.inl ⟨8, op, rfl, rfl⟩, .inr (.inl ⟨8, rfl, rfl⟩), .inr (.inr (.inr (.inl ⟨rfl, .inl ⟨rfl, rfl⟩⟩))),
    .inr (.inr (.inr (.inr ⟨rfl, .inr (.inl ⟨⟨519, rfl⟩, rfl⟩)⟩)))⟩

/-! ## The service orders and the path table -/

/-- An entry of the path 255 of site 7 with one crosspoint, row 15, column 0. -/
def anEntry : Vector Byte 40 :=
  ⟨#[255, 0, 7, 2, 1, 0, 0, 0, 0, 0x1E] ++ Array.replicate 30 0, rfl⟩

def serving (o : ServiceOrder) (abort : Bool) : State :=
  { on with
    service := { order := o, access := some pendingAccess, abort := abort }
    cfg := { on.cfg with expected := 1, columns := setAt on.cfg.columns 0 (some 7) } }

/-- An entry that every check passes, one of a busy path, and one that a check refuses (the check octet count 0). -/
theorem witness_entry_accepted :
    (serving (.define 0x80 1 0) false).entryAccepted (definitionEntry anEntry.toList) = true := by decide
theorem witness_entry_refused :
    (serving (.define 0x80 1 0) false).entryAccepted (definitionEntry (List.replicate 40 0)) = false := by decide
theorem witness_entry_busy :
    ¬ ((serving (.define 0x80 1 0) false).modPath 255 fun p => { p with state := .broken }).paths[(255 : PathId)].state = .undefined ∧
      (serving (.define 0x80 1 0) false).paths[(255 : PathId)].state = .undefined := by decide

/-- The first and the last transfer of the wear area, with and without an abort, and a run of WEAR_CLEAR. -/
theorem witness_service_orders :
    (serving (.wearSave 0) false).service.order = .wearSave 0 ∧ (serving (.wearSave 519) true).service.order = .wearSave 519 ∧
      (serving (.wearSave 519) true).service.access = some pendingAccess ∧ (serving (.wearSave 519) true).service.abort = true ∧
      (serving (.wearLoad 519) false).service.order = .wearLoad (519 : Fin 520).val ∧
      (serving (.wearClear 8319 1) false).service.order = .wearClear 8319 1 ∧
      (serving (.define 0x80 2 0) true).service.order = .define 0x80 2 0 ∧
      (serving (.define 0x80 2 0) true).service.access = some pendingAccess := by decide

theorem wear_sound_serving (o : ServiceOrder) (abort : Bool) : (serving o abort).WearSound :=
  ⟨by simp [serving, on, inDevice, State.reset, Health.reset], by simp [serving, on, inDevice, State.reset, Health.reset],
    by simp [serving, on, inDevice, State.reset, Health.reset]⟩

theorem marks_sound_serving (o : ServiceOrder) (abort : Bool) : (serving o abort).MarksSound := by
  have none : ∀ n : RelayNo, (serving o abort).relayThresholds n = .reset := fun n => by
    unfold State.relayThresholds
    split
    · simp [serving, on, inDevice, State.reset, Health.reset]
    · rfl
  exact ⟨.nil, .nil, fun n => ⟨nofun, fun h => absurd (by simp [none, Thresholds.reset]) h.1⟩,
    fun n => ⟨nofun, fun h => absurd (by simp [none, Thresholds.reset]) h.1⟩⟩

/-- The run of WEAR_CLEAR, its last relay and the one before it. -/
theorem witness_clear_run : 8319 ≤ (8319 : RelayNo).val ∧ (8319 : RelayNo).val < 8319 + 1 ∧ (8318 : RelayNo).val < 8319 :=
  ⟨by simp, by simp, by simp⟩

/-! ## The passages -/

def passing (p : Passage) : State := { on with host := { on.host with passage := p, access := some pendingAccess } }

theorem witness_passages (p : Passage) : (passing p).host.passage = p ∧ (passing p).host.access = some pendingAccess := ⟨rfl, rfl⟩

theorem wear_sound_passing (p : Passage) : (passing p).WearSound :=
  ⟨by simp [passing, on, inDevice, State.reset, Health.reset], by simp [passing, on, inDevice, State.reset, Health.reset],
    by simp [passing, on, inDevice, State.reset, Health.reset]⟩

/-- A block of the layout version 1 with bay 0 expected and every lane head 0 passes every check; and one block for each code. -/
def block (version expected : Byte) (at_ : Nat) (v : Byte) : Vector Byte 1280 :=
  Vector.ofFn fun i => if i.val = at_ then v else if i.val = 0 then version else if i.val = 2 then expected else 0

theorem block_byte (version expected v : Byte) (a i : Nat) (h : i < 1280) :
    byteAt (block version expected a v).toList i =
      if i = a then v else if i = 0 then version else if i = 2 then expected else 0 := by
  have hl : i < (block version expected a v).toList.length := lt_of_lt_of_eq h Vector.length_toList.symm
  rw [byteAt, List.getD_eq_getElem _ _ hl, Vector.getElem_toList]
  exact Vector.getElem_ofFn h

/-- Each check of a block: all pass but for the one octet `v` at `a`. -/
theorem block_checks (expected v : Byte) (a : Nat) (ha : 2 < a) :
    let bytes := block 1 expected a v
    let octet : Nat → Nat := fun i => (byteAt bytes.toList i).toNat
    le16 bytes.toList 0 = 1 ∧ byteAt bytes.toList 2 = expected ∧
      (a < 0x2B0 ∨ 0x2F0 ≤ a → ∀ b < 8, octet (0x2B0 + 8 * b + 1) ≤ 3 ∧ octet (0x2B0 + 8 * b + 2) ≤ 3) ∧
      (a < 0x230 ∨ 0x270 ≤ a → ∀ r < 16, octet (0x230 + 4 * r) ≤ 7 ∧ octet (0x230 + 4 * r + 1) ≤ 3) ∧
      (a < 0x300 → ∀ c < 512, octet (0x300 + c) ≤ 7) ∧ (0x160 ≤ a → ∀ n < 9, octet (0x40 + 32 * n) % 128 = 0) := by
  have z : ∀ i, i < 1280 → 2 < i → i ≠ a → byteAt (block 1 expected a v).toList i = 0 := fun i h1 h2 h3 => by
    rw [block_byte _ _ _ _ _ h1, if_neg h3, if_neg (by omega), if_neg (by omega)]
  refine ⟨?_, ?_, fun h b hb => ⟨?_, ?_⟩, fun h r hr => ⟨?_, ?_⟩, fun h c hc => ?_, fun h n hn => ?_⟩
  · rw [le16, block_byte _ _ _ _ _ (by omega), block_byte _ _ _ _ _ (by omega), if_neg (by omega), if_neg (by omega),
      if_neg (by omega), if_neg (by omega), if_pos rfl]
    rfl
  · rw [block_byte _ _ _ _ _ (by omega), if_neg (by omega)]; rfl
  all_goals
    simp only []
    rw [z _ (by omega) (by omega) (by omega)]
    decide

/-- The values at the ends of the ranges of the checks: version 2, type and class 3 and 4, sites 7, 8, 254 and 255, and head addresses
of 1, 127 and 128. -/
theorem witness_check_bounds :
    (2 : BitVec 16) ≠ 1 ∧ ¬ (4 : Byte).toNat ≤ 3 ∧ (3 : Byte).toNat ≤ 3 ∧ ¬ ((8 : Byte).toNat ≤ 7 ∨ (8 : Byte).toNat = 255) ∧
      (7 : Byte).toNat ≤ 7 ∧ ¬ ((254 : Byte).toNat ≤ 7 ∨ (254 : Byte).toNat = 255) ∧
      ((255 : Byte).toNat ≤ 7 ∨ (255 : Byte).toNat = 255) ∧
      ¬ (1 : Byte).toNat % 128 = 0 ∧ ¬ (127 : Byte).toNat % 128 = 0 ∧ (128 : Byte).toNat % 128 = 0 := by decide

/-- A block that every check passes, and one that fails the first. -/
theorem witness_block_passes : configFailure (block 1 1 0x4FF 0).toList = none := by
  have z : ∀ i, i < 1280 → 2 < i → byteAt (block 1 1 0x4FF 0).toList i = 0 := fun i h1 h2 => by
    rw [block_byte _ _ _ _ _ h1]; split <;> [rfl; rw [if_neg (by omega), if_neg (by omega)]]
  have h := block_checks 1 0 0x4FF (by omega)
  have site : ∀ i, i < 1280 → 2 < i → badSiteCode (byteAt (block 1 1 0x4FF 0).toList i) = false := fun i h1 h2 => by
    rw [z i h1 h2]; rfl
  have head : ∀ i, 2 < i → i + 8 ≤ 1280 → aligned128 (le64 (block 1 1 0x4FF 0).toList i) = true := fun i h1 h2 => by
    simp only [le64, le32, le16]
    repeat rw [z _ (by omega) (by omega)]
    rfl
  rw [configFailure, if_neg, if_neg, if_neg, if_neg, if_neg, if_neg]
  · simp only [List.any_eq_true, not_exists, not_and, Bool.not_eq_true]
    intro n _
    rw [head _ (by simp only [laneDescriptorOffset]; omega) (by simp only [laneDescriptorOffset]; omega)]; rfl
  · simp only [List.any_eq_true, not_exists, not_and, Bool.not_eq_true]
    exact fun c _ => site _ (by simp only [columnMapOffset]; omega) (by simp only [columnMapOffset]; omega)
  · simp only [List.any_eq_true, not_exists, not_and, Bool.not_eq_true]
    intro r _
    rw [site _ (by simp only [rowEntryOffset]; omega) (by simp only [rowEntryOffset]; omega),
      z _ (by simp only [rowEntryOffset]; omega) (by simp only [rowEntryOffset]; omega)]
    rfl
  · simp only [List.any_eq_true, not_exists, not_and, Bool.not_eq_true]
    intro b _
    rw [z _ (by simp only [bayEntryOffset]; omega) (by simp only [bayEntryOffset]; omega),
      z _ (by simp only [bayEntryOffset]; omega) (by simp only [bayEntryOffset]; omega)]
    exact Bool.and_false _
  · rw [configExpected, h.2.1]; decide
  · exact not_not.2 h.1

theorem witness_block_fails : configFailure (block 2 1 0x4FF 0).toList = some .badVersion := by
  rw [configFailure, if_pos]
  rw [configVersion, le16, block_byte _ _ _ _ _ (by omega), block_byte _ _ _ _ _ (by omega)]
  decide

/-! ## The bay link -/

/-- A request on SRQ, the follow-ups of bay 7, a due keep-alive of bay 7 alone, and a due re-probe of bay 7 alone. -/
def keepAliveDue : State := (linked on).modBay 1 fun bay => { bay with keepAliveDue := true }
def reprobeDue : State := (linked on).modBay 7 fun bay => { bay with state := .faulted, reprobeDue := true }

theorem witness_link_ranks :
    ((linked on).link.frame = none ∧ (linked on).link.rate.isSome = true ∧ (linked on).link.discovery.stage = .inactive) ∧
      on.link.rate = none ∧
      (let s := { linked on with link := { (linked on).link with srq := true } }
       s.link.srq = true ∧ s.isOperating = true ∧ s.link.poll = .idle) ∧
      (let s := { linked on with link := { (linked on).link with poll := .followUps [1] false } }
       s.link.poll = .followUps [1] false ∧ s.link.bays[(1 : BayId)].state = .online) ∧
      (let s := { linked on with link := { (linked on).link with poll := .followUps [7] false } }
       s.link.poll = .followUps [7] false ∧ s.link.bays[(7 : BayId)].state = .absent) ∧
      (keepAliveDue.link.srq = false ∧ keepAliveDue.link.poll = .idle ∧ keepAliveDue.link.bays[(1 : BayId)].keepAliveDue = true ∧
        keepAliveDue.link.bays[(1 : BayId)].state = .online ∧ keepAliveDue.link.bays[(0 : BayId)].keepAliveDue = false) ∧
      ((∀ c : BayId, reprobeDue.link.bays[c].keepAliveDue = false) ∧ reprobeDue.link.bays[(7 : BayId)].reprobeDue = true ∧
        reprobeDue.link.bays[(7 : BayId)].state = .faulted ∧
        ∀ c : BayId, c < 7 → reprobeDue.link.bays[c].reprobeDue = false) := by decide

/-- A closing wave of the last column of bay 1, and an opening wave that carries its isolation relay. -/
def closingWave : Wave := ⟨1, true, [crosspoint 15 127], 5, 2, [], .planned⟩
def openingWave : Wave := ⟨1, false, [crosspoint 15 127, isolation 1 15], 5, 0, [], .planned⟩

/-- Context 0 is the last position that the search reaches (pointer 0, nine positions on). -/
def offering (w : Wave) : State := (linked on).modContext 0 fun _ => { Context.reset with due := [w] }

theorem witness_grant :
    let s := offering closingWave
    s.link.frame = none ∧ s.link.rate.isSome = true ∧ s.link.discovery.stage = .inactive ∧ s.pollPending = false ∧
      s.followUpFrame = none ∧ s.keepAliveBay = none ∧ s.reprobeBay = none ∧
      (∀ j : Fin 9, j < 8 → (s.positionOffer (Fin.ofNat 9 (s.link.pointer.val + 1 + j.val))).isNone = true) ∧
      (0 : SiteId).val = (s.link.pointer.val + 1 + (8 : Fin 9).val) % 9 ∧
      s.contexts[(0 : SiteId)].due.find? s.waveEligible = some closingWave ∧ closingWave.source = .planned ∧
      (offering openingWave).contexts[(0 : SiteId)].due.find? (offering openingWave).waveEligible = some openingWave := by decide

def carrying (w : Wave) (owner : FrameOwner) (repeated : Bool) : State :=
  withFrame (linked on) { bay := w.bay, body := .wave w [], owner := owner, repeated := repeated }

theorem witness_ack :
    (carrying closingWave (.context 7) false).link.bays[closingWave.bay].state = .online ∧ closingWave.relays.Nodup ∧
      (∀ n ∈ closingWave.relays, relayBay n = closingWave.bay) ∧ openingWave.relays.Nodup ∧
      (∀ n ∈ openingWave.relays, relayBay n = openingWave.bay) ∧ (carrying closingWave (.context 7) false).host.passage = .idle ∧
      (carrying closingWave (.context 7) false).contexts[(7 : SiteId)].ending = none ∧ 0 < closingWave.span ∧
      closingWave.source = .planned ∧ (carrying closingWave (.context 7) false).contexts[(7 : SiteId)].nextClosings[(1 : BayId)] = [] := by
  and_intros <;> first | exact forall_of_all (by decide) | rfl | decide

theorem wear_sound_carrying (w : Wave) (owner : FrameOwner) (repeated : Bool) : (carrying w owner repeated).WearSound :=
  ⟨List.Pairwise.nil, nofun, nofun⟩
theorem quiet_carrying (w : Wave) (owner : FrameOwner) (repeated : Bool) : (carrying w owner repeated).Quiet := ⟨rfl, rfl⟩

/-- The wear example crosses the warn threshold with relay 2,360. -/
theorem witness_crossing :
    2360 ∈ wearWave.relays ∧ (wearExample.relayThresholds 2360).warn ≠ 0 ∧
      wearExample.wearOf 2360 < (wearExample.relayThresholds 2360).warn.toNat ∧
      (wearExample.relayThresholds 2360).warn.toNat ≤ min (wearExample.wearOf 2360 + 16) 4294967295 := by
  and_intros <;> first | exact forall_of_all (by decide) | exact exists_of_any (by decide) | rfl | decide

/-- A frame at its first failure and one at its second, to an ONLINE bay, and no order. -/
theorem witness_failures :
    (carrying closingWave .keepAlive false).link.rate.isSome = true ∧
      (carrying closingWave .keepAlive true).link.bays[closingWave.bay].state = .online ∧ FrameOwner.keepAlive ≠ .discovery ∧
      FrameOwner.keepAlive ≠ .reprobe := by decide
theorem no_orders_carrying (w : Wave) (owner : FrameOwner) (repeated : Bool) : (carrying w owner repeated).NoOrders := by
  intro n
  exact (by decide : ∀ n : SiteId, on.contexts[n].order = none ∧ on.contexts[n].ending = none) n

def aPlan : Plan :=
  { opening := [], closing := [crosspoint 15 127], openingWaves := [], closingWaves := setAt (.replicate 8 []) 1 [closingWave]
    breakHolds := .replicate 8 none, makeBounces := .replicate 8 none, gap := 1, settle := 1, planned := 0, outcome := none }

/-- Context 7 runs a SWITCH whose plan has a relay in bay 1. -/
def planned (f : Context → Context) : State :=
  ((linked on).modContext 7 fun _ => f { Context.reset with order := some aSwitch, passed := true }).setPlan 7 (some aPlan)

theorem witness_bay_drop :
    let s := withFrame (planned id) { bay := 1, body := .wave closingWave [], owner := .context 7, repeated := true }
    s.link.bays[closingWave.bay].state = .online ∧ s.contexts[(7 : SiteId)].order = some aSwitch ∧ aSwitch.kind = .switch ∧
      s.contexts[(7 : SiteId)].passed = true ∧ s.contexts[(7 : SiteId)].ending = none ∧
      s.contexts[(7 : SiteId)].scanPhase = .none ∧ s.plans[(7 : SiteId)] = some aPlan ∧ s.arbiter.waiting = [] ∧
      crosspoint 15 127 ∈ aPlan.opening ++ aPlan.closing ∧ relayBay (crosspoint 15 127) = closingWave.bay := by decide

/-- A SENSE reply that is the last, with the relays of two groups compared, and one that is not. -/
theorem witness_sense :
    let s := withFrame (withContext 5 { mismatchContext with senseDue := [] })
      { bay := 1, body := .sense [7, 20], owner := .context 5, repeated := false }
    ([0x30, 0x01] : List Byte).length = ([7, 20] : List Nat).length ∧ s.contexts[(5 : SiteId)].ending = none ∧
      s.contexts[(5 : SiteId)].acc.mismatchCount ≤ 255 ∧ s.contexts[(5 : SiteId)].senseDue = [] ∧ s.arbiter.waiting = [] ∧
      1100 ∈ s.contexts[(5 : SiteId)].verifySet ∧ relayBay 1100 = 1 ∧ ([7, 20] : List Nat)[0]? = some (relayGroup 1100) ∧
      mismatchContext.senseDue ≠ [] := by decide

/-- A STATUS frame to an ONLINE bay, to a HELD bay with the reasons 2, and to a FAULTED bay. -/
theorem witness_status :
    let held := (linked on).modBay 1 fun bay => { bay with state := .held, reasons := 2 }
    (linked on).link.bays[(1 : BayId)].state = .online ∧ held.link.bays[(1 : BayId)].state = .held ∧
      (8 : Byte).extractLsb' 0 3 = 0 ∧ (7 : Byte).extractLsb' 0 3 ≠ 0 ∧
      (7 : Byte).extractLsb' 0 3 ≠ held.link.bays[(1 : BayId)].reasons ∧
      (2 : Byte).extractLsb' 0 3 = held.link.bays[(1 : BayId)].reasons ∧ held.isOperating = true ∧
      reprobeDue.link.bays[(7 : BayId)].state = .faulted := by decide

/-- Slots that show no request: an absent octet, and bay 0's octet without its request bit; and ones that do: its request bit, and a
wrong check. -/
theorem witness_slots :
    ¬ SlotRequests 0 none ∧ ¬ SlotRequests 0 (some 0xF0) ∧ SlotRequests 0 (some 0xE1) ∧ SlotRequests 0 (some 0x00) ∧
      ¬ SlotRequests 7 (some 0x1E) ∧ SlotRequests 7 (some 0xF0) ∧ Followed (linked on) 1 := by
  refine ⟨nofun, ?_, ⟨_, rfl, by decide⟩, ⟨_, rfl, by decide⟩, ?_, ⟨_, rfl, by decide⟩, .inl rfl⟩
  · rintro ⟨o, ⟨⟩, h⟩; exact absurd (h (by decide) (by decide)) (by decide)
  · rintro ⟨o, ⟨⟩, h⟩; exact absurd (h (by decide) (by decide)) (by decide)

theorem witness_poll :
    let polling := { linked on with link := { (linked on).link with poll := .polling, frame := some ⟨0, .poll, .poll, false⟩ } }
    let clearing := { linked on with link :=
      { (linked on).link with poll := .followUps [0, 1] true, frame := some ⟨0, .clear, .followUp, false⟩ } }
    polling.link.poll = .polling ∧ polling.link.frame = some ⟨0, .poll, .poll, false⟩ ∧
      clearing.link.poll = .followUps [0, 1] true ∧ clearing.link.frame = some ⟨0, .clear, .followUp, false⟩ ∧
      ((999 : Time) - 0).toNat < 1000 ∧ 1000 ≤ ((1000 : Time) - 0).toNat := by decide

/-- Bay 1 with its timers started at 0, and bay 7 FAULTED on its re-probe. -/
theorem witness_bay_timers :
    let s := (linked on).modBay 1 fun bay => { bay with keepAlive := some 0 }
    let r := (withFrame (linked on) ⟨7, .probe, .reprobe, true⟩).modBay 7 fun bay => { bay with state := .faulted, reprobe := some 0 }
    s.link.bays[(1 : BayId)].keepAlive = some 0 ∧ s.link.bays[(1 : BayId)].state = .online ∧
      r.link.bays[(7 : BayId)].reprobe = some 0 ∧ r.link.bays[(7 : BayId)].state = .faulted ∧
      r.link.frame = some ⟨7, .probe, .reprobe, true⟩ ∧ r.isOperating = true ∧ (1 : Byte) ≠ r.cfg.bays[(7 : BayId)].model ∧
      (0 : Byte) = r.cfg.bays[(7 : BayId)].model ∧ (1 : Byte).getLsbD 0 = true ∧ (2 : Byte).getLsbD 0 = false ∧
      ((99999 : Time) - 0).toNat < 100000 ∧ 100000 ≤ ((100000 : Time) - 0).toNat := by decide

def discovering (d : Discovery) (frame : Option LinkFrame) : State :=
  withBay { on with link := { on.link with rate := some 1, frame := frame, discovery := d }, cfg := { on.cfg with expected := 0x80 } } 7
    .probing

theorem witness_discovery :
    let pulse := discovering ⟨.pulse 0, [], [], []⟩ none
    let probing := discovering ⟨.pass, [7], [], []⟩ none
    let reply := discovering ⟨.pass, [6], [], []⟩ (some ⟨7, .probe, .discovery, false⟩)
    let last := discovering ⟨.pass, [], [], []⟩ (some ⟨7, .probe, .discovery, true⟩)
    let waiting := discovering ⟨.waiting, [], [], [⟨7, 0, 0, false⟩, ⟨6, 0, 0, false⟩]⟩ none
    (pulse.link.discovery.stage = .pulse 0 ∧ ((99 : Time) - 0).toNat < 100 ∧ 100 ≤ ((100 : Time) - 0).toNat ∧
      pulse.cfg.expected.getLsbD 7 = true) ∧
      (probing.link.discovery.stage = .pass ∧ probing.link.discovery.toProbe = [7] ∧ 7 ∉ ([] : List BayId) ∧
        probing.link.frame = none ∧ probing.link.rate.isSome = true) ∧
      (reply.link.frame = some ⟨7, .probe, .discovery, false⟩ ∧ reply.link.bays[(7 : BayId)].state = .probing ∧
        reply.link.discovery.toProbe ≠ [] ∧ reply.link.discovery.waiting = []) ∧
      (last.link.frame = some ⟨7, .probe, .discovery, true⟩ ∧ last.link.discovery.toProbe = [] ∧ last.link.rate = some (1 : Fin 3) ∧
        (1 : Fin 3).val < 2) ∧
      (waiting.link.discovery.stage = .waiting ∧ waiting.link.discovery.waiting = [⟨7, 0, 0, false⟩, ⟨6, 0, 0, false⟩] ∧
        (∀ x ∈ [(⟨6, 0, 0, false⟩ : WaitingBay)], x.bay ≠ 7) ∧ 50000 ≤ ((50000 : Time) - 0).toNat) := by decide

/-! ## The switch contexts -/

/-- Context 7 with a SWITCH and a claim in the waiting list, or a wave held, since time 0; the limits are 5. -/
def waitingState (t : Time) : State :=
  let s := atTime t running
  { s with
    arbiter := { s.arbiter with waiting := [⟨7, [15], 0⟩] }
    lanes := modAt s.lanes 7 fun l => { l with desc := { l.desc with claimWait := 5 } } }

def holding (t : Time) : State := (atTime t running).modContext 7 fun c => { c with held := some ⟨closingWave, 0, some 3⟩ }

theorem witness_claim_wait :
    (∀ e ∈ (waitingState 4).arbiter.waiting, e.lane = 7 → ((waitingState 4).now - e.enqueued).toNat <
      (waitingState 4).lanes[siteLane 7].desc.claimWait.toNat) ∧
      (⟨7, [15], 0⟩ : WaitEntry) ∈ (waitingState 5).arbiter.waiting ∧
      (waitingState 5).lanes[siteLane 7].desc.claimWait.toNat ≤ ((waitingState 5).now - 0).toNat ∧
      (waitingState 5).contexts[(7 : SiteId)].scanPhase = .none := by
  and_intros <;> first | exact forall_of_all (by decide) | exact exists_of_any (by decide) | rfl | decide
theorem going_waiting : Going (waitingState 5) 7 := ⟨rfl, rfl, rfl⟩

theorem witness_hot_hold :
    (holding 4).contexts[(7 : SiteId)].held = some ⟨closingWave, 0, some 3⟩ ∧
      (holding 4).contexts[(7 : SiteId)].order = some aSwitch ∧ ((holding 4).now - 0).toNat < aSwitch.hotWait.toNat ∧
      aSwitch.hotWait.toNat ≤ ((holding 5).now - 0).toNat ∧ (holding 5).contexts[(7 : SiteId)].scanPhase = .none := by
  and_intros <;> first | exact forall_of_all (by decide) | exact exists_of_any (by decide) | rfl | decide
theorem going_holding : Going (holding 5) 7 ∧ NotWaiting (holding 5) 7 := ⟨⟨rfl, rfl, rfl⟩, fun _ h => by cases h⟩

/-- Row 15 is live, and is the only row of the held wave of context 7. -/
def liveRow : State :=
  { holding 0 with live := { enable := setAt (.replicate 16 false) 15 true, line := setAt (.replicate 16 false) 15 true } }

theorem witness_live_edge :
    on.live.enable[(15 : RowId)] = false ∧ liveRow.live.enable[(15 : RowId)] = true ∧ liveRow.live.line[(15 : RowId)] = true ∧
      liveRow.contexts[(7 : SiteId)].held = some ⟨closingWave, 0, some 3⟩ ∧
      (∀ m : SiteId, m ≠ 7 → liveRow.contexts[m].held = none) ∧ liveRow.contexts[(7 : SiteId)].holdQueue = [] ∧
      (∃ x ∈ closingWave.relays, relayRow x = 15) ∧
      ∀ x ∈ closingWave.relays, relayRow x ≠ 15 → liveRow.rowLive (relayRow x) = false := by
  and_intros <;> first | exact forall_of_all (by decide) | exact exists_of_any (by decide) | rfl | decide
theorem quiet_live_row : liveRow.Quiet := ⟨rfl, rfl⟩

/-- The timers of a context that started at 0 with a length of 5, at the times 4 and 5; one bay alone, or two. -/
def five : Timer := ⟨0, 5⟩
def phased (t : Time) (bays : List BayId) : State :=
  atTime t (planned fun c => { c with
    breakTimers := Vector.ofFn fun b => if b ∈ bays then .running five else .absent
    makeTimers := Vector.ofFn fun b => if b ∈ bays then .running five else .absent
    gapTimer := some five, spacingTimers := .replicate 8 (some five), nextClosings := .replicate 8 [closingWave]
    settleTimer := some five })

theorem witness_phase_timers :
    (phased 4 [7]).contexts[(7 : SiteId)].breakTimers[(7 : BayId)] = .running five ∧ ¬ 5 ≤ ((phased 4 [7]).now - five.start).toNat ∧
      five.length ≤ ((phased 5 [7]).now - five.start).toNat ∧
      (phased 5 [0, 7]).contexts[(7 : SiteId)].breakTimers[(0 : BayId)] = .running five ∧
      (phased 5 [0, 7]).contexts[(7 : SiteId)].makeTimers[(0 : BayId)] = .running five ∧
      (phased 5 [7]).contexts[(7 : SiteId)].makeTimers[(7 : BayId)] = .running five ∧
      (∀ c : BayId, c ≠ 7 → (phased 5 [7]).contexts[(7 : SiteId)].breakTimers[c] = .absent ∧
        (phased 5 [7]).contexts[(7 : SiteId)].makeTimers[c] = .absent) ∧
      (phased 5 [7]).contexts[(7 : SiteId)].scanPhase = .none ∧ (phased 5 [7]).plans[(7 : SiteId)] = some aPlan ∧
      0 < aPlan.gap ∧ 0 < aPlan.settle ∧ (phased 5 [7]).contexts[(7 : SiteId)].order = some aSwitch ∧
      (phased 5 [7]).contexts[(7 : SiteId)].ending = none ∧ aPlan.closingWaves[(1 : BayId)] ≠ [] ∧
      aPlan.closingWaves[(0 : BayId)] = [] ∧ (phased 5 [7]).contexts[(7 : SiteId)].gapTimer = some five ∧
      (phased 5 [7]).contexts[(7 : SiteId)].spacingTimers[(7 : BayId)] = some five ∧
      (phased 5 [7]).contexts[(7 : SiteId)].nextClosings[(7 : BayId)] = [closingWave] := by decide
theorem no_timer_open : ¬ PhaseTimer.Open .absent ∧ ¬ PhaseTimer.Open .expired := by simp [PhaseTimer.Open]
theorem quiet_phased (t : Time) (bays : List BayId) : (phased t bays).Quiet := ⟨rfl, rfl⟩
theorem no_live_phased (t : Time) (bays : List BayId) : (phased t bays).NoLiveRow :=
  fun r => (by decide : ∀ r : RowId, on.rowLive r = false) r

/-- A handover: path 1, which was ACTIVE and holds row 0, gives it to path 2; row 1 is held by no such path. -/
def handover : State :=
  ((((phased 5 [7]).modContext 7 fun c => { c with disconnect := [1], connect := [2] }).modPath 1 fun p =>
    { p with prior := some .active }).modPath 2 fun p => { p with rowSet := [0] }).setHolder 0 (.path 1)

theorem witness_handover :
    (1 ∈ handover.contexts[(7 : SiteId)].disconnect ∧ handover.paths[(1 : PathId)].prior = some .active ∧
      handover.arbiter.holders[(0 : RowId)] = .path 1) ∧
      (handover.contexts[(7 : SiteId)].connect.find? fun q => handover.paths[q].rowSet.contains 0) = some 2 ∧
      (∀ p ∈ handover.contexts[(7 : SiteId)].connect, (1 : RowId) ∉ handover.paths[p].rowSet) := by
  and_intros <;> first | exact forall_of_all (by decide) | exact exists_of_any (by decide) | rfl | decide

/-- A SWITCH at the end of its settle phase: path 1 has its one crosspoint CLOSED, path 2 has none, path 3 one of two. -/
def settled (flags : BitVec 16) : State :=
  let s := (planned fun c => { c with
    order := some { aSwitch with flags := flags }, disconnect := [2], connect := [1, 3], settleTimer := some ⟨0, 0⟩ })
  let s := ((s.modPath 1 fun p => { p with crosspoints := [(0, 0)], rowSet := [0] }).modPath 2 fun p =>
    { p with crosspoints := [(1, 0)], rowSet := [1] }).modPath 3 fun p => { p with crosspoints := [(2, 0), (2, 1)], rowSet := [2] }
  let s := (((s.setHolder 0 (.path 1)).setHolder 1 (.path 2)).setHolder 2 (.path 3))
  { s with image := { s.image with closed := [crosspoint 0 0, crosspoint 2 0, isolation 0 0, isolation 0 2] } }

theorem witness_settle :
    (settled 0).contexts[(7 : SiteId)].settleTimer = some ⟨0, 0⟩ ∧
      (settled 0).contexts[(7 : SiteId)].order = some { aSwitch with flags := 0 } ∧ (settled 0).arbiter.waiting = [] ∧
      (settled 0).contexts[(7 : SiteId)].passed = true ∧ (settled 0).contexts[(7 : SiteId)].unjudged = false ∧
      (∀ r ∈ (settled 0).relaySet 1, r ∈ (settled 0).image.closed ∧ (settled 0).arbiter.holders[relayRow r] = .path 1) ∧
      (settled 0).relaySet 1 ≠ [] ∧ (∀ r ∈ (settled 0).relaySet 2, r ∉ (settled 0).image.closed) ∧
      (∃ r ∈ (settled 0).relaySet 3, r ∈ (settled 0).image.closed ∧ (settled 0).arbiter.holders[relayRow r] = .path 3) ∧
      (∃ r ∈ (settled 0).relaySet 3, r ∉ (settled 0).image.closed) ∧ (0 : BitVec 16).getLsbD 2 = false ∧
      (4 : BitVec 16).getLsbD 2 = true ∧ (settled 4).plans[(7 : SiteId)] = some aPlan := by
  and_intros <;> first | exact forall_of_all (by decide) | exact exists_of_any (by decide) | rfl | decide
theorem quiet_settled (flags : BitVec 16) : (settled flags).Quiet ∧ (settled flags).Ran ⟨0, 0⟩ := ⟨⟨rfl, rfl⟩, Nat.zero_le _⟩

/-- R103, R105: its judgement. -/
theorem test_settle_ends_the_order :
    after (.settleTimerExpiry 7) (settled 0)
      (fun t => ([1, 2, 3].map fun p : PathId => t.paths[p].state) == [.active, .idle, .broken] &&
        t.arbiter.holders[(1 : RowId)] == .free && t.lanes[siteLane 7].final == .done) = true := by decide

/-! ## Scans -/

/-- The operands of a scan of row 0 of two steps from column 63 by 1, with guard none, settle 5, dwell 5 and step wait 5. -/
def scanOrder (advance : Byte) (count stride : Nat) : Order :=
  { kind := .scan, flags := 0, hotWait := 0
    operands := [0, advance, 0, 0, 0, 0] ++ octets 2 63 ++ octets 2 count ++ octets 2 stride ++ octets 2 5 ++ octets 2 0 ++
      octets 4 5 ++ octets 4 5 ++ List.replicate 24 0 }

def scanning (t : Time) (o : Order) (phase : ScanPhase) : State :=
  let s := atTime t ((linked on).modContext 7 fun _ =>
    { Context.reset with
      order := some o, passed := true, scanPhase := phase, column := some 63, settleTimer := some five, advanceTimer := some five })
  { s with image := { s.image with closed := [crosspoint 0 63, isolation 0 0] } }

/-- The end of a step's settle; the three events that advance a step, and an STP edge that does not. -/
theorem witness_scan_settle :
    (scanning 5 (scanOrder 0 2 1) .stepSettle).contexts[(7 : SiteId)].settleTimer = some five ∧
      (scanning 5 (scanOrder 0 2 1) .stepSettle).contexts[(7 : SiteId)].scanPhase = .stepSettle ∧
      five.length ≤ ((scanning 5 (scanOrder 0 2 1) .stepSettle).now - five.start).toNat ∧
      0 < (scanning 5 (scanOrder 0 2 1) .stepSettle).contexts[(7 : SiteId)].scanOps.dwell ∧
      (scanning 5 (scanOrder 0 2 1) .await).contexts[(7 : SiteId)].scanOps.advance = .dwell := by decide

/-- A scan in DWELL mode with a dwell of 0, at the end of a step's settle. -/
theorem witness_dwell_zero :
    let operands := [0, 0, 0, 0, 0, 0] ++ octets 2 63 ++ octets 2 2 ++ octets 2 1 ++ octets 2 5 ++ List.replicate 34 0
    let s := scanning 5 { kind := .scan, flags := 0, hotWait := 0, operands := operands } .stepSettle
    s.contexts[(7 : SiteId)].scanOps.advance = .dwell ∧ s.contexts[(7 : SiteId)].scanOps.dwell = 0 ∧
      s.contexts[(7 : SiteId)].settleTimer = some five ∧ s.contexts[(7 : SiteId)].scanPhase = .stepSettle := by decide

theorem witness_advances :
    AdvancesStep (scanning 5 (scanOrder 0 2 1) .await) 7 (.dwellExpiry 7) ∧
      AdvancesStep (scanning 4 (scanOrder 1 2 1) .await) 7 (.stpEdge 7) ∧
      AdvancesStep (scanning 5 (scanOrder 2 2 1) .await) 7 (.stepWaitExpiry 7) :=
  ⟨⟨rfl, .inl ⟨rfl, by decide, five, rfl, Nat.le_refl 5⟩⟩, ⟨rfl, .inr (.inl ⟨rfl, by decide⟩)⟩,
    ⟨rfl, .inr (.inr ⟨rfl, by decide, five, rfl, Nat.le_refl 5⟩)⟩⟩

theorem quiet_scanning (t : Time) (o : Order) (phase : ScanPhase) : (scanning t o phase).Quiet := ⟨rfl, rfl⟩
theorem no_live_scanning (t : Time) (o : Order) (phase : ScanPhase) : (scanning t o phase).NoLiveRow :=
  fun r => (by decide : ∀ r : RowId, on.rowLive r = false) r

/-- The step from column 63 of bay 0 to column 64 of bay 1, the step to a repeated column, and the advance from the last step. -/
theorem witness_scan_steps :
    let s := scanning 4 (scanOrder 1 2 1) .await
    let repeated := scanning 4 (scanOrder 1 2 0) .await
    s.contexts[(7 : SiteId)].column = some 63 ∧ s.contexts[(7 : SiteId)].stepIndex + 1 < s.contexts[(7 : SiteId)].scanOps.count ∧
      (s.contexts[(7 : SiteId)].scanOps.column 1).val = 64 ∧ s.contexts[(7 : SiteId)].order.isSome = true ∧
      s.contexts[(7 : SiteId)].ending = none ∧ s.link.bays[(1 : BayId)].state = .online ∧
      s.isRetired (crosspoint 0 64) = false ∧ s.isRetired (isolation 1 0) = false ∧
      (repeated.contexts[(7 : SiteId)].scanOps.column 1).val = 63 ∧ 0 < repeated.contexts[(7 : SiteId)].scanOps.settle := by
  and_intros <;> first | rfl | decide

theorem witness_scan_ends :
    let s := scanning 5 (scanOrder 1 1 1) .await
    s.contexts[(7 : SiteId)].column = some 63 ∧ s.contexts[(7 : SiteId)].scanOps.count ≤ s.contexts[(7 : SiteId)].stepIndex + 1 ∧
      (s.cleanupWave s.contexts[(7 : SiteId)].scanOps.rowId 63).relays ≠ [] ∧ s.contexts[(7 : SiteId)].advanceTimer = some five ∧
      s.contexts[(7 : SiteId)].scanPhase = .await ∧ s.contexts[(7 : SiteId)].scanOps.advance = .strict ∧
      s.contexts[(7 : SiteId)].passed = true ∧ ¬ 5 ≤ ((4 : Time) - five.start).toNat ∧ five.length ≤ (s.now - five.start).toNat ∧
      s.arbiter.waiting = [] ∧
      (({ s with image := { s.image with closed := [] } } : State).cleanupWave s.contexts[(7 : SiteId)].scanOps.rowId 63).relays = [] := by
  and_intros <;> first | rfl | decide
theorem going_scanning : Going (scanning 5 (scanOrder 1 1 1) .await) 7 := ⟨rfl, rfl, rfl⟩

/-- The break hold of a cleanup wave, of a scan that has taken no ending and of one that has. -/
theorem witness_cleanup :
    let s := (scanning 5 (scanOrder 1 1 1) .cleanup).modContext 7 fun c => { c with cleanupHold := some five }
    let e := (scanning 5 (scanOrder 1 1 1) .cleanup).modContext 7 fun c =>
      { c with cleanupHold := some five, ending := some .stepTimeout }
    s.contexts[(7 : SiteId)].cleanupHold = some five ∧ s.contexts[(7 : SiteId)].ending = none ∧
      s.contexts[(7 : SiteId)].connect = [] ∧ e.contexts[(7 : SiteId)].ending = some .stepTimeout ∧ s.arbiter.waiting = [] ∧
      s.contexts[(7 : SiteId)].unjudged = false ∧ (s.setHolder 15 (.scan 7)).arbiter.holders[(15 : RowId)] = .scan 7 := by
  and_intros <;> rfl

/-- R136, R138: the STP edge of the last step opens what the scan has closed. -/
theorem test_last_step_cleans_up :
    after (.stpEdge 7) (scanning 4 (scanOrder 1 1 1) .await)
      (fun t => (t.contexts[(7 : SiteId)].due.map fun w => w.relays.map Fin.val) == [[63, 1024]]) = true := by decide
/-- 8.10: a step into another bay opens the old bay's two relays. -/
theorem test_step_into_another_bay :
    after (.stpEdge 7) (scanning 4 (scanOrder 1 2 1) .await)
      (fun t => (t.contexts[(7 : SiteId)].due.map fun w => (w.closing, w.relays.map Fin.val)) == [(false, [63, 1024])]) = true := by
  decide

/-! ## The planner and the claim arbiter -/

/-- R88: seventeen closings in a bay whose wave limit is 16 make two waves. -/
theorem test_waves_of_sixteen :
    let s := { on with cfg := { on.cfg with bays := setAt on.cfg.bays 0 ⟨1, 0, 0, 16, 0⟩ } }
    (s.closingWaves 0 ((List.range 17).map (Fin.ofNat 8320))).map (fun w => w.relays.length) = [16, 1] := by decide

/-- R70: the oldest entry for row 0 is granted, a younger one for rows 0 and 1 waits, and holds row 1 back from the youngest. -/
theorem test_walk :
    let s := { on with arbiter := { on.arbiter with waiting := [⟨0, [0], 0⟩, ⟨1, [0, 1], 1⟩, ⟨2, [1], 2⟩, ⟨3, [2], 3⟩] } }
    let s := { s with contexts := .replicate 8 { Context.reset with order := some (scanOrder 0 1 1) } }
    s.walk.2 = [0, 3] := by decide

/-! ## The start of an order -/

/-- The operands of a SWITCH: its two lists and its budget. -/
def switchOctets (budget : Byte) (ds cs : List Byte) : List Byte :=
  [BitVec.ofNat 8 ds.length, BitVec.ofNat 8 cs.length, 0, 0, budget, 0, 0, 0] ++ (ds ++ List.replicate 8 0).take 8 ++
    (cs ++ List.replicate 8 0).take 8

/-- The operands of a SCAN of `count` columns from `base` by 1. -/
def scanOctets (row : Byte) (guard : List Byte) (base : Nat) (count : Byte) : List Byte :=
  [row, 0, 0, BitVec.ofNat 8 guard.length, guard.getD 0 0, 0] ++ octets 2 base ++ [count, 0, 1, 0]

def aPath (state : PathState) (site : SiteId) (row : RowId) (col : ColumnId) : PathEntry :=
  ⟨state, site, .refuse, 7, [(row, col)], [row], none⟩

/-- Paths 1, 2 and 4 to 7 of site 7, of which path 2 is ACTIVE with its two relays CLOSED, and path 3 of site 0. Paths 2 and 4 share row 1,
paths 1 and 5 row 0; row 2, of path 6, is held by a scan; path 7 lies in bay 2. -/
def matrixPaths : Vector PathEntry 256 :=
  setAt (setAt (setAt (setAt (setAt (setAt (setAt (.replicate 256 .reset) 1 (aPath .idle 7 0 0)) 2 (aPath .active 7 1 64))
    3 (aPath .idle 0 0 1)) 4 (aPath .idle 7 1 65)) 5 (aPath .idle 7 0 2)) 6 (aPath .idle 7 2 0)) 7 (aPath .idle 7 4 128)

def matrixHolders : Vector RowHolder 16 := setAt (setAt (.replicate 16 .free) 1 (.path 2)) 2 (.scan 0)

/-- Lane 7 has written TAKEN for an order, with a claim-wait limit and the marks, the live rows and bay 1's state as named. Bays 0 and 1 are
otherwise ONLINE, every column is site 7's, and row 6 is site 0's. -/
def handing (kind flags : Byte) (operands : List Byte) (wait : Word32) (retired : List RelayNo) (live : Bool) (bay : BayState) : State :=
  let s := withBay (linked (withLane 7 { busyLane .fetching .taken with
    held := some ⟨0x1000, recordOctets kind flags operands⟩, desc := { LaneDescriptor.reset with claimWait := wait } })) 1 bay
  { s with
    paths := matrixPaths
    arbiter := { s.arbiter with holders := matrixHolders }
    image := { s.image with closed := [crosspoint 1 64, isolation 1 1] }
    health := { s.health with retired := retired }
    live := { enable := .replicate 16 true, line := .replicate 16 live }
    cfg := { s.cfg with
      expected := 7, columns := .replicate 512 (some 7), rows := setAt (.replicate 16 ⟨none, 0, true⟩) 6 ⟨some 0, 0, true⟩
      types := .replicate 4 ⟨5, 3, 2⟩ } }

theorem matrix_path (p : PathId) : matrixPaths[p] =
    if 7 = p then aPath .idle 7 4 128 else if 6 = p then aPath .idle 7 2 0 else if 5 = p then aPath .idle 7 0 2
    else if 4 = p then aPath .idle 7 1 65 else if 3 = p then aPath .idle 0 0 1 else if 2 = p then aPath .active 7 1 64
    else if 1 = p then aPath .idle 7 0 0 else PathEntry.reset := by
  unfold matrixPaths
  simp only [setAt_getElem]
  have h : (Vector.replicate 256 PathEntry.reset)[p] = PathEntry.reset := Vector.getElem_replicate p.isLt
  rw [h]

theorem handing_hands_over (kind flags : Byte) (operands : List Byte) (wait : Word32) (retired : List RelayNo) (live : Bool)
    (bay : BayState) :
    HandsOver (handing kind flags operands wait retired live bay) 7 pendingAccess ⟨0x1000, recordOctets kind flags operands⟩ kind := by
  have contexts : ∀ n : SiteId, on.contexts[n] = .reset := by decide
  have holders : ∀ r : RowId, matrixHolders[r] = if r = 1 then .path 2 else if r = 2 then .scan 0 else .free := by decide
  refine ⟨⟨rfl, rfl⟩, rfl, rfl, rfl, rfl, rfl, fun r h => ?_, ⟨.nil, nofun, nofun, fun n h => ?_, rfl⟩,
    ⟨fun p => ?_, fun p => ?_, fun p => ?_, fun p => ?_, fun n p h => ?_, fun r p h => ?_⟩⟩
  · have h : matrixHolders[r] = .scan 7 := h
    rw [holders] at h
    split at h <;> [cases h; (split at h <;> [exact absurd h (by decide); cases h])]
  · have h : on.contexts[n].order.isSome = true := h
    rw [contexts] at h
    cases h
  all_goals try
    show (_ : Prop)
    simp only [handing]
    rw [matrix_path]
    repeat' split
    all_goals decide
  · have h : p ∈ on.contexts[n].disconnect ++ on.contexts[n].connect := h
    rw [contexts] at h
    cases h
  · have h : matrixHolders[r] = .path p := h
    rw [holders] at h
    split at h
    · cases h; subst_vars; exact ⟨(by decide : (1 : RowId) ∈ matrixPaths[(2 : PathId)].rowSet), .inr (.inl rfl)⟩
    · split at h <;> cases h

/-- A SWITCH of these lists, handed over with every mark clear, no live row and bay 1 ONLINE. -/
def switching (ds cs : List Byte) (wait : Word32) : State := handing 1 0 (switchOctets 0 ds cs) wait [] false .online

/-- The bounds of the counts: 0 and 0, 8, and 9. -/
theorem witness_switch_counts :
    let counts := fun ds cs =>
      let ops := switchOperands (recordOperands (recordOctets 1 0 (switchOctets 0 ds cs)))
      (ops.disconnectCount, ops.connectCount)
    counts [] [] = (0, 0) ∧ counts (List.replicate 8 1) [] = (8, 0) ∧ counts (List.replicate 9 1) [] = (9, 0) ∧ counts [2] [4] = (1, 1) := by
  decide

/-- An id that is UNDEFINED, one of another site, and one that stands twice, after one that is valid. -/
theorem witness_switch_ids :
    let ops := fun ds cs => switchOperands (recordOperands (recordOctets 1 0 (switchOctets 0 ds cs)))
    (ops [200] []).disconnect = [200] ∧ (switching [200] [] 0).idFault 7 [] 200 = some .pathUndefined ∧
      (ops [] [3]).connect = [3] ∧ (switching [] [3] 0).idFault 7 [] 3 = some .pathNotOwned ∧
      (ops [] [1, 1]).connect = [1, 1] ∧ (switching [] [1, 1] 0).idFault 7 [] 1 = none ∧
      (switching [] [1, 1] 0).idFault 7 [1] 1 = some .badOperand := by decide

/-- Ids that stand once each and name defined paths of site 7 are valid. -/
theorem valid_ids (s : State) (hs : s.paths = matrixPaths) (ids : List PathId) (hd : ids.Nodup) (h : ∀ p ∈ ids, p ∈ [1, 2, 4, 5, 6, 7]) :
    s.IdsValid 7 ids ∧ ∀ p ∈ ids, s.paths[p].state ≠ .pending := by
  have each : ∀ p ∈ ([1, 2, 4, 5, 6, 7] : List PathId), matrixPaths[p].state ≠ .undefined ∧ matrixPaths[p].site = 7 ∧
      matrixPaths[p].state ≠ .pending := forall_of_all (by decide)
  refine ⟨fun k p hk => ?_, fun p hp => hs ▸ (each p (h p hp)).2.2⟩
  obtain ⟨h1, h2, -⟩ := each p (h p (List.mem_of_getElem? hk))
  rw [State.idFault, hs, if_neg h1, if_neg (not_not.2 h2), if_neg]
  intro hm
  obtain ⟨j, hj, hx⟩ := List.getElem_of_mem hm
  rw [List.length_take] at hj
  obtain ⟨hk', rfl⟩ := List.getElem?_eq_some_iff.1 hk
  rw [List.getElem_take] at hx
  have := (List.Nodup.getElem_inj_iff hd).1 hx
  omega

/-- Paths 1 and 5 share row 0: the second of them conflicts, the first does not. -/
theorem witness_switch_conflict :
    let s := switching [] [1, 5] 0
    (s.IdsValid 7 [1, 5] ∧ ∀ p ∈ ([1, 5] : List PathId), s.paths[p].state ≠ .pending) ∧ FirstAt (s.ConflictsAt 7 [] [1, 5]) 1 := by
  refine ⟨valid_ids _ rfl _ (by decide) (forall_of_all (by decide)), ⟨5, rfl, .inr ⟨0, 1, 0, Nat.one_pos, rfl,
    (by decide : (0 : RowId) ∈ matrixPaths[(5 : PathId)].rowSet), (by decide : (0 : RowId) ∈ matrixPaths[(1 : PathId)].rowSet)⟩⟩, ?_⟩
  rintro j hj ⟨p, hp, h⟩
  obtain rfl : j = 0 := by omega
  cases hp
  rcases h with ⟨r, ⟨hr, -⟩, q, hq, -⟩ | ⟨i, q, r, hi, -⟩
  · have e : r = 0 := List.mem_singleton.1 ((by decide : matrixPaths[(1 : PathId)].rowSet = [0]) ▸ hr)
    subst e
    exact absurd hq nofun
  · exact absurd hi (Nat.not_lt_zero i)

/-- A claim of the one path `p` of one row, which no path of site 7 outside `ds` holds, has no conflict. -/
theorem no_conflict (s : State) (ds : List PathId) (p : PathId) (row : RowId) (hr : s.paths[p].rowSet = [row])
    (hh : ¬ s.NeedsRow ds p row ∨ ¬ s.HeldAt 7 row) (i : Nat) : ¬ s.ConflictsAt 7 ds [p] i := by
  rintro ⟨q, hq, h⟩
  match i, hq with
  | 0, hq =>
    cases hq
    rcases h with ⟨r, hn, ha⟩ | ⟨j, _, _, hj, -⟩
    · obtain rfl : r = row := List.mem_singleton.1 (hr ▸ hn.1)
      exact hh.elim (· hn) (· ha)
    · exact absurd hj (Nat.not_lt_zero j)

/-- A SWITCH of path 6, whose row 2 a scan holds: its claim is not granted at once, and nothing can be granted. -/
theorem witness_switch_claim (wait : Word32) :
    let s := switching [] [6] wait
    (switchOperands (recordOperands (recordOctets 1 0 (switchOctets 0 [] [6])))).connect = [6] ∧ s.IdsValid 7 [6] ∧
      (∀ p ∈ ([6] : List PathId), s.paths[p].state ≠ .pending) ∧ (∀ i, ¬ s.ConflictsAt 7 [] [6] i) ∧
      s.ClaimRows [] [6] [2] ∧ ¬ s.GrantedAtOnce [2] ∧ s.lanes[siteLane 7].desc.claimWait = wait ∧ s.AllBlocked [2] := by
  have v := valid_ids (switching [] [6] wait) rfl [6] (by decide) (forall_of_all (by decide))
  have held : (switching [] [6] wait).arbiter.holders[(2 : RowId)] = .scan 0 := rfl
  refine ⟨by decide, v.1, v.2, no_conflict _ _ _ 2 rfl (.inr ?_), ⟨.cons nofun .nil, fun r => ⟨fun h => ?_, ?_⟩⟩, ?_, rfl, nofun,
    2, List.mem_singleton_self 2, .inl ?_⟩
  · rintro ⟨q, hq, -⟩; rw [held] at hq; cases hq
  · obtain rfl := List.mem_singleton.1 h
    exact ⟨6, List.mem_singleton_self 6, List.mem_singleton_self 2, by rw [held]; nofun, nofun⟩
  · rintro ⟨p, hp, hr, -⟩; cases List.mem_singleton.1 hp
    exact (by decide : matrixPaths[(6 : PathId)].rowSet = [2]) ▸ hr
  · rintro (h | ⟨-, h⟩)
    · cases h
    · have := h 2 (List.mem_singleton_self 2); rw [held] at this; cases this
  · rw [held]; nofun

/-- The paths that an order connects or disconnects here, with their relays: path 2 is connected, 1, 4 and 7 are not. -/
theorem matrix_relays (s : State) (hp : s.paths = matrixPaths) (hh : s.arbiter.holders = matrixHolders) :
    s.relaySet 2 = [crosspoint 1 64, isolation 1 1] ∧ s.wholeRelaySet 2 = [crosspoint 1 64, isolation 1 1] ∧
      s.wholeRelaySet 4 = [crosspoint 1 65, isolation 1 1] ∧ s.wholeRelaySet 1 = [crosspoint 0 0, isolation 0 0] ∧
      s.wholeRelaySet 7 = [crosspoint 4 128, isolation 2 4] := by
  have e : ∀ p : PathId, p = 2 → s.relaySet p = (switching [] [] 0).relaySet p := fun p _ => by
    simp only [State.relaySet, State.pathCrosspoints, State.pathIsolations, State.pathHolds, hp, hh]; rfl
  have w : ∀ p : PathId, s.wholeRelaySet p = (switching [] [] 0).wholeRelaySet p := fun p => by
    simp only [State.wholeRelaySet, State.pathCrosspoints, State.pathIsolations, hp]; rfl
  rw [e 2 rfl, w, w, w, w]
  decide

theorem connected_iff (s : State) (hp : s.paths = matrixPaths) (p : PathId) : s.Connected p ↔ p = 2 := by
  simp only [State.Connected, hp, matrix_path]
  refine ⟨fun h => ?_, fun h => by subst h; exact .inl rfl⟩
  repeat' split at h
  all_goals first | (subst_vars; rfl) | exact absurd h (by decide)

/-- What the planning event of a SWITCH or a PARK with the lists `ds` and `cs` asks of a state, beside the validity of its ids. -/
structure PlanPremises (s : State) (ds cs : List PathId) (rows : List RowId) (opening closing : List RelayNo) : Prop where
  named : ds ++ cs ≠ []
  held : ∀ p ∈ cs, s.Connected p → ∀ r ∈ s.paths[p].rowSet, s.arbiter.holders[r] = .path p
  claim : s.ClaimRows ds cs rows
  granted : s.GrantedAtOnce rows
  openingSet : ascendingSet opening
  opens : ∀ x, x ∈ opening ↔ ∃ k, s.Opens ds cs k x
  closingSet : ascendingSet closing
  closes : ∀ x, x ∈ closing ↔ ∃ k, s.Closes cs k x

/-- The parts of a state that the premises speak of. -/
structure Matrix (s : State) : Prop where
  paths : s.paths = matrixPaths
  holders : s.arbiter.holders = matrixHolders
  waiting : s.arbiter.waiting = []
  closed : s.image.closed = [crosspoint 1 64, isolation 1 1]

theorem matrix_handing (kind flags : Byte) (operands : List Byte) (wait : Word32) (retired : List RelayNo) (live : Bool)
    (bay : BayState) : Matrix (handing kind flags operands wait retired live bay) := ⟨rfl, rfl, rfl, rfl⟩

/-- With nothing to disconnect nothing opens. -/
theorem opens_none (s : State) (cs : List PathId) (x : RelayNo) : x ∈ ([] : List RelayNo) ↔ ∃ k, s.Opens [] cs k x :=
  ⟨nofun, fun ⟨_, _, h, _⟩ => nomatch h⟩

/-- A connect list of one path that is not connected closes its relays, none of which is CLOSED. -/
theorem closes_one (s : State) (p : PathId) (hp : s.paths[p].state = .idle ∨ s.paths[p].state = .broken) (x : RelayNo) :
    (x ∈ s.wholeRelaySet p ∧ x ∉ s.image.closed) ↔ ∃ k, s.Closes [p] k x :=
  ⟨fun h => ⟨0, p, rfl, hp, h⟩, fun ⟨k, _, hq, _, h⟩ => match k, hq with | 0, rfl => h⟩

/-- Path `p`, 1 or 7, is connected: its row is free, and both its relays close. -/
theorem witness_plan_makes (s : State) (m : Matrix s) (p : PathId) (row : RowId) (closing : List RelayNo)
    (h : p = 1 ∧ row = 0 ∧ closing = [crosspoint 0 0, isolation 0 0] ∨ p = 7 ∧ row = 4 ∧ closing = [crosspoint 4 128, isolation 2 4]) :
    (s.IdsValid 7 [p] ∧ ∀ q ∈ [p], s.paths[q].state ≠ .pending) ∧ (∀ i, ¬ s.ConflictsAt 7 [] [p] i) ∧
      PlanPremises s [] [p] [row] [] closing := by
  have rel := matrix_relays s m.paths m.holders
  have free : matrixHolders[(0 : RowId)] = .free ∧ matrixHolders[(4 : RowId)] = .free := by decide
  have hrow : s.paths[p].rowSet = [row] := by rw [m.paths]; rcases h with ⟨rfl, rfl, -⟩ | ⟨rfl, rfl, -⟩ <;> decide
  have hfree : s.arbiter.holders[row] = .free := by rw [m.holders]; rcases h with ⟨-, rfl, -⟩ | ⟨-, rfl, -⟩ <;> decide
  have hidle : s.paths[p].state = .idle := by rw [m.paths]; rcases h with ⟨rfl, -⟩ | ⟨rfl, -⟩ <;> decide
  have hwhole : s.wholeRelaySet p = closing ∧ ∀ x ∈ closing, x ∉ s.image.closed := by
    rw [m.closed]
    rcases h with ⟨rfl, -, rfl⟩ | ⟨rfl, -, rfl⟩
    · exact ⟨rel.2.2.2.1, forall_of_all (by decide)⟩
    · exact ⟨rel.2.2.2.2, forall_of_all (by decide)⟩
  refine ⟨valid_ids s m.paths [p] (List.nodup_singleton p) (by rcases h with ⟨rfl, -⟩ | ⟨rfl, -⟩ <;> simp), no_conflict s [] p row hrow (.inr ?_),
    nofun, fun q hq hc => ?_, ⟨.cons nofun .nil, fun r => ?_⟩, .inr ⟨m.waiting, fun r hr => ?_⟩, .nil, opens_none s [p], ?_, fun x => ?_⟩
  · rintro ⟨q, hq, -⟩; rw [hfree] at hq; cases hq
  · cases List.mem_singleton.1 hq
    exact hc.elim (fun e => nomatch hidle ▸ e) fun e => nomatch hidle ▸ e
  · refine ⟨fun hr => ?_, ?_⟩
    · rw [List.mem_singleton.1 hr]
      exact ⟨p, List.mem_singleton_self p, by rw [hrow]; exact List.mem_singleton_self row, by rw [hfree]; nofun, nofun⟩
    · rintro ⟨q, hq, hr, -⟩; cases List.mem_singleton.1 hq; rwa [hrow] at hr
  · rw [List.mem_singleton.1 hr]; exact hfree
  · rcases h with ⟨-, -, rfl⟩ | ⟨-, -, rfl⟩ <;> decide
  · rw [← closes_one s p (.inl hidle) x, hwhole.1]
    exact ⟨fun hx => ⟨hx, hwhole.2 x hx⟩, fun hx => hx.1⟩

/-- Path 2 gives way to path 4 on row 1: its crosspoint opens, their isolation relay stays, and no row is claimed. -/
theorem witness_plan_breaks (s : State) (m : Matrix s) :
    (s.IdsValid 7 [2, 4] ∧ ∀ q ∈ ([2, 4] : List PathId), s.paths[q].state ≠ .pending) ∧ (∀ i, ¬ s.ConflictsAt 7 [2] [4] i) ∧
      PlanPremises s [2] [4] [] [crosspoint 1 64] [crosspoint 1 65] := by
  have rel := matrix_relays s m.paths m.holders
  have hrow : s.paths[(4 : PathId)].rowSet = [1] := by rw [m.paths]; decide
  have hidle : s.paths[(4 : PathId)].state = .idle := by rw [m.paths]; decide
  have held : s.arbiter.holders[(1 : RowId)] = .path 2 := by rw [m.holders]; decide
  have taken : ¬ s.NeedsRow [2] 4 1 := fun h =>
    h.2.2 2 (List.mem_singleton_self 2) ((connected_iff s m.paths 2).2 rfl) held
  have opened : (crosspoint 1 64 ∈ s.relaySet 2 ∧ crosspoint 1 64 ∈ s.image.closed) ∧ crosspoint 1 64 ∉ s.wholeRelaySet 4 := by
    rw [rel.1, m.closed, rel.2.2.1]; exact ⟨⟨by simp, by simp⟩, by decide⟩
  refine ⟨valid_ids s m.paths _ (by decide) (forall_of_all (by decide)), no_conflict s [2] 4 1 hrow (.inl taken), by simp,
    fun q hq hc => ?_, ⟨.nil, fun r => ⟨nofun, ?_⟩⟩, .inl rfl, by decide, fun x => ⟨fun hx => ?_, ?_⟩, by decide, fun x => ?_⟩
  · cases List.mem_singleton.1 hq
    exact hc.elim (fun e => nomatch hidle ▸ e) fun e => nomatch hidle ▸ e
  · rintro ⟨q, hq, hn⟩
    cases List.mem_singleton.1 hq
    have e : r = 1 := List.mem_singleton.1 (hrow ▸ hn.1)
    subst e
    exact absurd hn taken
  · rw [List.mem_singleton.1 hx]
    exact ⟨0, 2, rfl, (connected_iff s m.paths 2).2 rfl, opened.1.1, opened.1.2, fun q hq => by rw [List.mem_singleton.1 hq]; exact opened.2⟩
  · rintro ⟨k, q, hq, -, hx, -, hn⟩
    match k, hq with
    | 0, rfl =>
      rw [rel.1] at hx
      have hn := hn 4 (List.mem_singleton_self 4)
      rw [rel.2.2.1] at hn
      rcases List.mem_cons.1 hx with rfl | hx
      · exact List.mem_singleton_self _
      · rw [List.mem_singleton.1 hx] at hn
        exact absurd (by simp) hn
  · rw [← closes_one s 4 (.inl hidle) x, rel.2.2.1, m.closed]
    constructor
    · intro hx; rw [List.mem_singleton.1 hx]; exact ⟨by simp, by decide⟩
    · rintro ⟨hx, hn⟩
      rcases List.mem_cons.1 hx with rfl | hx
      · exact List.mem_singleton_self _
      · rw [List.mem_singleton.1 hx] at hn
        exact absurd (by simp) hn

/-- Path 2 named again among the connect paths: it holds its row, and nothing opens or closes. -/
theorem witness_plan_empty (s : State) (m : Matrix s) :
    (s.IdsValid 7 [2] ∧ ∀ q ∈ ([2] : List PathId), s.paths[q].state ≠ .pending) ∧ (∀ i, ¬ s.ConflictsAt 7 [] [2] i) ∧
      PlanPremises s [] [2] [] [] [] := by
  have hrow : s.paths[(2 : PathId)].rowSet = [1] := by rw [m.paths]; decide
  have held : s.arbiter.holders[(1 : RowId)] = .path 2 := by rw [m.holders]; decide
  have state : s.paths[(2 : PathId)].state = .active := by rw [m.paths]; decide
  have taken : ¬ s.NeedsRow [] 2 1 := fun h => h.2.1 held
  refine ⟨valid_ids s m.paths _ (by decide) (forall_of_all (by decide)), no_conflict s [] 2 1 hrow (.inl taken), by simp,
    fun q hq _ r hr => ?_, ⟨.nil, fun r => ⟨nofun, ?_⟩⟩, .inl rfl, .nil, opens_none s [2], .nil, fun x => ⟨nofun, ?_⟩⟩
  · cases List.mem_singleton.1 hq
    have e : r = 1 := List.mem_singleton.1 (hrow ▸ hr)
    subst e
    exact held
  · rintro ⟨q, hq, hn⟩
    cases List.mem_singleton.1 hq
    have e : r = 1 := List.mem_singleton.1 (hrow ▸ hn.1)
    subst e
    exact absurd hn taken
  · rintro ⟨k, q, hq, hs, -⟩
    match k, hq with
    | 0, rfl => exact hs.elim (fun e => nomatch state ▸ e) fun e => nomatch state ▸ e

/-- A PARK of site 7 disconnects path 2, with both its relays. -/
theorem witness_plan_park (s : State) (m : Matrix s) :
    ascendingSet ([2] : List PathId) ∧ (∀ p, p ∈ ([2] : List PathId) ↔ s.Connected p ∧ s.paths[p].site = 7) ∧
      PlanPremises s [2] [] [] [crosspoint 1 64, isolation 1 1] [] := by
  have rel := matrix_relays s m.paths m.holders
  have site : s.paths[(2 : PathId)].site = 7 := by rw [m.paths]; decide
  refine ⟨by decide, fun p => ?_, by simp, nofun, ⟨.nil, fun r => ⟨nofun, fun ⟨_, h, _⟩ => nomatch h⟩⟩, .inl rfl, by decide, fun x => ?_,
    .nil, fun x => ⟨nofun, fun ⟨_, _, h, _⟩ => nomatch h⟩⟩
  · rw [connected_iff s m.paths, List.mem_singleton]
    exact ⟨fun h => by subst h; exact ⟨rfl, site⟩, fun h => h.1⟩
  · constructor
    · intro hx
      exact ⟨0, 2, rfl, (connected_iff s m.paths 2).2 rfl, by rwa [rel.1], by rwa [m.closed], nofun⟩
    · rintro ⟨k, q, hq, -, hx, -⟩
      match k, hq with
      | 0, rfl => rwa [rel.1] at hx

/-- With nothing retired, no live row, the relays in ONLINE bays and no budget no check fails. -/
theorem no_plan_fails (s : State) (ds cs : List PathId) (planned : Nat) (hr : s.health.retired = []) (hl : s.NoLiveRow)
    (ho : ∀ k x, s.Opens ds cs k x ∨ s.Closes cs k x → s.link.bays[relayBay x].state = .online) (code : Code) (failing : Option Nat) :
    ¬ s.PlanFails ds cs 0 planned code failing := by
  have part : ∀ bad i, s.PartFails ds cs bad i → ∃ (p : PathId) (k : Nat) (x : RelayNo), (s.Opens ds cs k x ∨ s.Closes cs k x) ∧ bad s.paths[p] x := by
    rintro bad i (⟨p, x, -, h, hb⟩ | ⟨k, p, x, -, -, h, hb⟩)
    · exact ⟨p, i, x, .inl h, hb⟩
    · exact ⟨p, k, x, .inr h, hb⟩
  rintro (⟨-, i, -, h, -⟩ | ⟨-, ⟨-, i, -, h, -⟩ | ⟨-, ⟨-, i, -, h, -⟩ | ⟨-, -, -, h, -⟩⟩⟩)
  · rcases h with ⟨_, _, h, -⟩ | ⟨_, _, x, -, -, -, h⟩
    · cases h
    · rw [State.isRetired, hr] at h; cases h
  · obtain ⟨_, k, x, hx, hb⟩ := part _ _ h
    exact hb (ho k x hx)
  · obtain ⟨_, k, x, -, hb⟩ := part _ _ h
    exact absurd hb.2 (by rw [hl]; decide)
  · exact h rfl

/-- A connect list of path `p` alone, of which `bad` holds, fails at index 8. -/
theorem fails_at_eight (s : State) (bad : PathEntry → RelayNo → Prop) (p : PathId) (x : RelayNo) (hx : s.Closes [p] 0 x)
    (hb : bad s.paths[p] x) : FirstAt (s.PartFails [] [p] bad) 8 := by
  refine ⟨.inr ⟨0, p, x, rfl, rfl, hx, hb⟩, fun j hj => ?_⟩
  rintro (⟨_, _, h, -⟩ | ⟨k, _, _, h, -⟩)
  · cases h
  · omega

/-- Each check of a plan fails at its own: a RETIRED relay and a live row of path 1, whose policy is REFUSE, the bay 2 of path 7, and a
budget of 1 under the settle of 7. -/
theorem witness_plan_fails :
    (handing 1 0 (switchOctets 0 [] [1]) 0 [crosspoint 0 0] false .online).PlanFails [] [1] 0 0 .relayRetired (some 8) ∧
      (handing 1 0 (switchOctets 0 [] [7]) 0 [] false .online).PlanFails [] [7] 0 0 .bayUnavailable (some 8) ∧
      (handing 1 0 (switchOctets 0 [] [1]) 0 [] true .online).PlanFails [] [1] 0 0 .hotRefused (some 8) ∧
      (handing 1 0 (switchOctets 1 [] [1]) 0 [] false .online).PlanFails [] [1] 1
        ((handing 1 0 (switchOctets 1 [] [1]) 0 [] false .online).plannedTime [] [crosspoint 0 0, isolation 0 0] 7) .overBudget none := by
  have closes : ∀ (s : State) (p : PathId) (x : RelayNo), Matrix s →
      (p = 1 ∧ x = crosspoint 0 0 ∨ p = 7 ∧ x = crosspoint 4 128) → s.Closes [p] 0 x := fun s p x m h => by
    have rel := matrix_relays s m.paths m.holders
    refine ⟨p, rfl, .inl ?_, ?_, ?_⟩
    · rw [m.paths]; rcases h with ⟨rfl, -⟩ | ⟨rfl, -⟩ <;> decide
    · rcases h with ⟨rfl, rfl⟩ | ⟨rfl, rfl⟩
      · rw [rel.2.2.2.1]; simp
      · rw [rel.2.2.2.2]; simp
    · rw [m.closed]; rcases h with ⟨-, rfl⟩ | ⟨-, rfl⟩ <;> decide
  have retired : ∀ (s : State) (p : PathId) i, s.health.retired = [] → ¬ s.PartFails [] [p] (fun _ x => s.isRetired x = true) i :=
    fun s p i hr h => by
      rcases h with ⟨_, _, h, -⟩ | ⟨_, _, x, -, -, -, h⟩
      · cases h
      · rw [State.isRetired, hr] at h; cases h
  have online : ∀ (s : State) (m : Matrix s) i, s.link.bays[(0 : BayId)].state = .online →
      ¬ s.PartFails [] [1] (fun _ x => s.link.bays[relayBay x].state ≠ .online) i := fun s m i ho h => by
    rcases h with ⟨_, _, h, -⟩ | ⟨k, q, x, -, hq, ⟨q', hq', -, hx, -⟩, hb⟩
    · cases h
    · match k, hq, hq' with
      | 0, rfl, rfl =>
        rw [(matrix_relays s m.paths m.holders).2.2.2.1] at hx
        have b : relayBay x = 0 := by
          rcases List.mem_cons.1 hx with rfl | hx
          · decide
          · rw [List.mem_singleton.1 hx]; decide
        exact hb ((congrArg (fun b : BayId => s.link.bays[b].state) b).trans ho)
  refine ⟨.inl ⟨rfl, 8, rfl, ?_⟩, .inr ⟨fun i => retired _ 7 i rfl, .inl ⟨rfl, 8, rfl, ?_⟩⟩,
    .inr ⟨fun i => retired _ 1 i rfl, .inr ⟨fun i => online _ (matrix_handing ..) i rfl, .inl ⟨rfl, 8, rfl, ?_⟩⟩⟩,
    .inr ⟨fun i => retired _ 1 i rfl, .inr ⟨fun i => online _ (matrix_handing ..) i rfl, .inr ⟨fun i h => ?_, rfl, rfl, by decide, ?_⟩⟩⟩⟩
  · exact fails_at_eight _ _ 1 (crosspoint 0 0) (closes _ 1 _ (matrix_handing ..) (.inl ⟨rfl, rfl⟩)) rfl
  · exact fails_at_eight _ _ 7 (crosspoint 4 128) (closes _ 7 _ (matrix_handing ..) (.inr ⟨rfl, rfl⟩)) (by decide)
  · exact fails_at_eight _ _ 1 (crosspoint 0 0) (closes _ 1 _ (matrix_handing ..) (.inl ⟨rfl, rfl⟩)) (by decide)
  · rcases h with ⟨_, _, h, -⟩ | ⟨_, _, x, -, -, -, -, h⟩
    · cases h
    · exact absurd h ((by decide : ∀ r : RowId, ¬ (handing 1 0 [] 0 [] false .online).rowLive r = true) (relayRow x))
  · unfold State.plannedTime
    omega

/-- A state with no path defined, no row held and no path named is sound. -/
theorem paths_sound_bare (s : State) (hp : s.paths = on.paths) (hh : s.arbiter.holders = on.arbiter.holders)
    (hc : ∀ n : SiteId, s.contexts[n].disconnect ++ s.contexts[n].connect = []) : s.PathsSound ∧ ∀ p : PathId, ¬ s.Connected p := by
  have holders : ∀ r : RowId, on.arbiter.holders[r] = .free := by decide
  have path : ∀ p : PathId, s.paths[p] = .reset := fun p => hp ▸ Vector.getElem_replicate p.isLt
  refine ⟨⟨fun p => ?_, fun p => ?_, fun p => ?_, fun p => ?_, fun n p h => ?_, fun r p h => ?_⟩, fun p h => ?_⟩
  · rw [path]; decide
  · rw [path]; decide
  · rw [path]; decide
  · rw [path]; decide
  · rw [hc] at h; cases h
  · rw [hh, holders] at h; cases h
  · rw [State.Connected, path] at h; exact h.elim nofun nofun

/-- A site without a connected path, for a PARK and for a VERIFY. -/
theorem witness_park_none (kind : Byte) :
    let s := withLane 7 { busyLane .fetching .taken with held := some (heldRecord kind 0) }
    HandsOver s 7 pendingAccess (heldRecord kind 0) kind ∧ ∀ p : PathId, ¬ s.Connected p := by
  have contexts : ∀ n : SiteId, on.contexts[n] = .reset := by decide
  have holders : ∀ r : RowId, on.arbiter.holders[r] = .free := by decide
  have bare := paths_sound_bare (withLane 7 { busyLane .fetching .taken with held := some (heldRecord kind 0) }) rfl rfl
    fun n => congrArg (fun c : Context => c.disconnect ++ c.connect) (contexts n)
  refine ⟨⟨⟨rfl, rfl⟩, rfl, rfl, rfl, rfl, rfl, fun r h => ?_, ⟨.nil, nofun, nofun, fun r h => ?_, rfl⟩, bare.1⟩, bare.2⟩
  · exact nomatch (holders r).symm.trans h
  · exact nomatch (congrArg (fun c : Context => c.order.isSome) (contexts r)).symm.trans h

/-- A VERIFY of site 7: its verify set is the relay set of path 2, in bay 1, which is ONLINE or HELD. -/
theorem witness_verify (bay : BayState) :
    let s := handing 3 0 [] 0 [] false bay
    let set := [crosspoint 1 64, isolation 1 1]
    ascendingSet set ∧ (∀ x : RelayNo, x ∈ set ↔ ∃ p, s.Connected p ∧ s.paths[p].site = 7 ∧ x ∈ s.relaySet p) ∧
      ∀ x ∈ set, s.link.bays[relayBay x].state = bay := by
  have m := matrix_handing 3 0 [] 0 [] false bay
  refine ⟨by decide, fun x => ⟨fun h => ⟨2, (connected_iff _ m.paths 2).2 rfl, ?_, ?_⟩, ?_⟩, ?_⟩
  · rw [m.paths]; decide
  · rwa [(matrix_relays _ m.paths m.holders).1]
  · rintro ⟨p, hc, -, hx⟩
    cases (connected_iff _ m.paths p).1 hc
    rwa [(matrix_relays _ m.paths m.holders).1] at hx
  · intro x hx
    have b : relayBay x = 1 := (forall_of_all (by decide) : ∀ x ∈ [crosspoint 1 64, isolation 1 1], relayBay x = 1) x hx
    exact (congrArg (fun b : BayId => (handing 3 0 [] 0 [] false bay).link.bays[b].state) b).trans rfl

/-- A SCAN of these operands. -/
def scanStart (row : Byte) (guard : List Byte) (base : Nat) (count : Byte) (wait : Word32) (retired : List RelayNo) (live : Bool) : State :=
  handing 4 0 (scanOctets row guard base count) wait retired live .online

/-- The bounds of the operand ranges, and of the columns. -/
theorem witness_scan_operands :
    let ops := fun row guard base count => scanOperands (recordOperands (recordOctets 4 0 (scanOctets row guard base count)))
    (ops 15 [] 511 1).row = 15 ∧ (ops 16 [] 0 1).row = 16 ∧ (ops 0 [] 511 1).base = 511 ∧ (ops 0 [] 512 1).base = 512 ∧
      (ops 0 [] 0 0).count = 0 ∧ (ops 0 [] 0 1).count = 1 ∧ (ops 0 [] 0 1).stride = 1 ∧ (ops 0 [] 0 1).mode = 0 ∧ (ops 0 [] 0 1).policy = 0 ∧
      (ops 5 [] 0 1).guard = none ∧ (ops 5 [1] 0 1).guard = some 1 := by decide

/-- The row of another site, the column past the last one, a RETIRED relay, the guard path that is UNDEFINED, and the bay that is not
ONLINE. -/
theorem witness_scan_checks :
    (scanStart 6 [] 0 1 0 [] false).cfg.rows[(6 : RowId)].owner = some 0 ∧ (scanStart 5 [] 0 1 0 [] false).cfg.rows[(5 : RowId)].owner = none ∧
      FirstAt (fun i => ¬ (scanStart 5 [] 511 2 0 [] false).ColumnOk 7 511 1 i) 1 ∧
      (scanStart 5 [] 0 1 0 [] false).ColumnOk 7 0 1 0 ∧
      (scanStart 5 [] 0 1 0 [isolation 0 5] false).isRetired (isolation 0 5) = true ∧ (∀ x, (scanStart 5 [] 0 1 0 [] false).isRetired x = false) ∧
      (scanStart 5 [200] 0 1 0 [] false).idFault 7 [] 200 = some .pathUndefined ∧
      (scanStart 5 [] 128 1 0 [] false).link.bays[columnBay 128].state ≠ .online ∧
      (scanStart 5 [] 0 1 0 [] false).link.bays[columnBay 0].state = .online := by
  refine ⟨rfl, rfl, ⟨?_, fun j hj h => ?_⟩, ⟨0, rfl, Vector.getElem_replicate _⟩, rfl, fun x => rfl, by decide, by decide, rfl⟩
  · rintro ⟨c, hc, -⟩
    have := c.isLt
    omega
  · obtain rfl : j = 0 := by omega
    exact h ⟨511, rfl, Vector.getElem_replicate _⟩

/-- The conflicts of a scan's claim: its row is held by a path of its site, and its guard's row is; and the rows of a claim that waits, of
one that is granted at once, and of one with guard path 1. -/
theorem witness_scan_claim (wait : Word32) :
    let held := scanStart 1 [] 0 1 wait [] false
    let guarded := scanStart 5 [4] 0 1 wait [] false
    let busy := scanStart 2 [] 0 1 wait [] false
    let free := scanStart 5 [1] 0 1 wait [] false
    held.HeldAt 7 1 ∧ (guarded.paths[(4 : PathId)].state = .idle ∧ 1 ∈ guarded.paths[(4 : PathId)].rowSet ∧ guarded.HeldAt 7 1) ∧
      (¬ busy.HeldAt 7 2 ∧ ¬ busy.GrantedAtOnce [2] ∧ busy.AllBlocked [2] ∧ busy.lanes[siteLane 7].desc.claimWait = wait) ∧
      (¬ free.HeldAt 7 5 ∧ ¬ free.HeldAt 7 0 ∧ free.GrantedAtOnce [5] ∧ free.GrantedAtOnce [0, 5] ∧
        free.paths[(1 : PathId)].state = .idle ∧ free.paths[(1 : PathId)].rowSet = [0] ∧ free.IdsValid 7 [1]) ∧
      (ascendingSet ([crosspoint 0 0, isolation 0 0] : List RelayNo) ∧
        ∀ x, x ∈ [crosspoint 0 0, isolation 0 0] ↔ x ∈ free.wholeRelaySet 1 ∧ x ∉ free.image.closed) ∧ free.NoLiveRow := by
  have h1 : matrixHolders[(1 : RowId)] = .path 2 := by decide
  have h2 : matrixHolders[(2 : RowId)] = .scan 0 := by decide
  have free : ∀ r ∈ ([0, 5] : List RowId), matrixHolders[r] = .free := forall_of_all (by decide)
  have site : matrixPaths[(2 : PathId)].site = 7 := by decide
  have rel := matrix_relays _ (matrix_handing 4 0 (scanOctets 5 [1] 0 1) wait [] false .online).paths
    (matrix_handing 4 0 (scanOctets 5 [1] 0 1) wait [] false .online).holders
  refine ⟨⟨2, h1, site⟩, ⟨(by decide : matrixPaths[(4 : PathId)].state = .idle), (by decide : (1 : RowId) ∈ matrixPaths[(4 : PathId)].rowSet),
      2, h1, site⟩, ⟨?_, ?_, ⟨nofun, 2, List.mem_singleton_self 2, .inl fun h => nomatch h2.symm.trans h⟩, rfl⟩,
    ⟨?_, ?_, .inr ⟨rfl, fun r hr => free r (by rw [List.mem_singleton.1 hr]; decide)⟩, .inr ⟨rfl, free⟩,
      (by decide : matrixPaths[(1 : PathId)].state = .idle), (by decide : matrixPaths[(1 : PathId)].rowSet = [0]),
      (valid_ids _ rfl [1] (List.nodup_singleton _) (by simp)).1⟩, ⟨by decide, fun x => ?_⟩,
    fun r => (by decide : ∀ r : RowId, (handing 1 0 [] 0 [] false .online).rowLive r = false) r⟩
  · rintro ⟨q, hq, -⟩; exact nomatch h2.symm.trans hq
  · rintro (h | ⟨-, h⟩)
    · cases h
    · exact nomatch h2.symm.trans (h 2 (List.mem_singleton_self 2))
  · rintro ⟨q, hq, -⟩; exact nomatch (free 5 (by decide)).symm.trans hq
  · rintro ⟨q, hq, -⟩; exact nomatch (free 0 (by decide)).symm.trans hq
  · show _ ↔ x ∈ State.wholeRelaySet _ 1 ∧ _
    rw [scanStart, rel.2.2.2.1, (matrix_handing 4 0 (scanOctets 5 [1] 0 1) wait [] false .online).closed]
    exact ⟨fun h => ⟨h, (forall_of_all (by decide) : ∀ x ∈ [crosspoint 0 0, isolation 0 0], x ∉ [crosspoint 1 64, isolation 1 1]) x h⟩,
      fun h => h.1⟩

/-! ## Aborts and the service orders -/

/-- An order that has passed its checks and one that has not, with no row waiting and no path defined; and the service lane at work. -/
theorem witness_aborts (o : ServiceOrder) :
    let unpassed := running.modContext 7 fun c => { c with passed := false }
    let served := (serving o false).modLane 8 fun l => { l with state := .running }
    (running.contexts[(7 : SiteId)].passed = true ∧ running.contexts[(7 : SiteId)].unjudged = false ∧ running.arbiter.waiting = []) ∧
      (Going unpassed 7 ∧ unpassed.contexts[(7 : SiteId)].passed = false) ∧
      (served.Quiet ∧ served.lanes[serviceLane].state = .running ∧ served.lanes[serviceLane].access = none ∧
        served.service.order = o ∧ (8 : BitVec 16).toNat = serviceLane.val ∧ served.host.device = .enabled) :=
  ⟨⟨rfl, rfl, rfl⟩, ⟨⟨rfl, rfl, rfl⟩, rfl⟩, ⟨rfl, rfl⟩, rfl, rfl, rfl, rfl, rfl⟩

/-- A lane's end write with a LANE_RESET waiting, in OFFSET and RUNNING, with no status word in flight. -/
theorem witness_end_write (st : LaneState) (op : LaneOp) :
    let l := ({ busyLane st op with deferred := .reset, held := some (heldRecord 9 0) } : Lane)
    let s := withLane 8 l
    s.lanes[(8 : LaneId)] = l ∧ l.access = some ⟨op, pendingAccess⟩ ∧ l.port.access = none ∧ l.port.owed = [] ∧ l.deferred = .reset ∧
      l.state = st := ⟨rfl, rfl, rfl, rfl, rfl, rfl⟩

/-- A service order is handed over: DEFINE with 0, 1, 256 and 257 entries, UNDEFINE with the ranges 255 and 1, 255 and 2, and 0, and
WEAR_CLEAR with the runs 8319 and 1, 8319 and 2, and 0. -/
theorem witness_service_starts (kind : Byte) (operands : List Byte) :
    let h : HeldRecord := ⟨0x1000, recordOctets kind 0 operands⟩
    let s := withLane 8 { busyLane .fetching .taken with held := some h }
    s.Quiet ∧ s.lanes[serviceLane].access = some ⟨.taken, pendingAccess⟩ ∧ s.lanes[serviceLane].held = some h ∧
      s.lanes[serviceLane].deferred = .none ∧ byteAt h.bytes 1 = kind := ⟨⟨rfl, rfl⟩, rfl, rfl, rfl, rfl⟩
theorem witness_service_operands :
    let half := fun k v => (le16 (recordOctets 6 0 (List.replicate k 0 ++ octets 2 v)) (16 + k)).toNat
    let word := fun k v => (le32 (recordOctets 9 0 (List.replicate k 0 ++ octets 4 v)) (16 + k)).toNat
    (half 8 0, half 8 1, half 8 256, half 8 257) = (0, 1, 256, 257) ∧ (half 0 255, half 2 1, half 2 2, half 2 0) = (255, 1, 2, 0) ∧
      (word 0 8319, word 4 1, word 4 2, word 4 0) = (8319, 1, 2, 0) := by decide
/-- A path table whose last path is BROKEN and whose other paths are UNDEFINED: a range with a busy path at its end. -/
def busyAtEnd : Vector PathEntry 256 := setAt (.replicate 256 .reset) 255 { PathEntry.reset with state := .broken }

theorem witness_busy_range (kind : Byte) (operands : List Byte) :
    let s := withLane 8 { busyLane .fetching .taken with held := some ⟨0x1000, recordOctets kind 0 operands⟩ }
    let s := { s with paths := busyAtEnd }
    s.Quiet ∧ s.paths[(255 : PathId)].state = .broken ∧ ∀ q : PathId, q < 255 → s.paths[q].state = .undefined := by
  refine ⟨⟨rfl, rfl⟩, ?_, fun q hq => ?_⟩
  · show busyAtEnd[(255 : PathId)].state = _
    rw [busyAtEnd, setAt_getElem, if_pos rfl]
  · show busyAtEnd[q].state = _
    rw [busyAtEnd, setAt_getElem, if_neg (fun h : (255 : PathId) = q => absurd hq (h ▸ Nat.lt_irrefl _))]
    exact congrArg PathEntry.state (Vector.getElem_replicate q.isLt)

/-! ## PARK_ALL and DISABLE -/

/-- Every lane parked, and bays 0 and 1 ONLINE with the relays `closed` CLOSED. -/
def allParked (p : Passage) (d : DeviceState) (closed : List RelayNo) : State :=
  { linked on with
    host := { on.host with passage := p, device := d }
    lanes := .replicate 9 { Lane.reset with state := .halted, halt := some .parked }
    image := { on.image with closed := closed } }

theorem parked_all (p : Passage) (d : DeviceState) (closed : List RelayNo) (n : LaneId) : (allParked p d closed).Parked n := by
  have h : (allParked p d closed).lanes[n] = { Lane.reset with state := .halted, halt := some .parked } :=
    Vector.getElem_replicate n.isLt
  rw [State.Parked, h]
  exact ⟨rfl, rfl, rfl, rfl⟩

/-- PARK_ALL with every lane HALTED, and nothing on the link, with a CLOSED relay in bay 1 and with none. -/
theorem witness_park_opens :
    let s := allParked .idle .enabled [crosspoint 15 127]
    s.host.device = .enabled ∧ s.arbiter.walkOwed = false ∧ s.link.frame = none ∧
      (∀ n : LaneId, s.lanes[n].state = .halted ∧ s.lanes[n].access = none) ∧
      ((List.finRange 8).filter fun b => s.bayOnline b && s.image.closed.any fun x => relayBay x == b) = [1] ∧
      (let s := allParked .idle .enabled []
       ((List.finRange 8).filter fun b => s.bayOnline b && s.image.closed.any fun x => relayBay x == b) = []) := by
  and_intros <;> first | rfl | decide

/-- Lane 8 is the last to park, at the end of each access that parks it. -/
theorem witness_last_park (op : LaneOp) :
    let s := (allParked .aborting .parking []).modLane 8 fun _ => { busyLane .fetching op with deferred := .park }
    s.host.passage = .aborting ∧ s.host.device = .parking ∧ s.arbiter.walkOwed = false ∧ s.link.frame = none ∧
      s.lanes[(8 : LaneId)].access = some ⟨op, pendingAccess⟩ ∧ s.lanes[(8 : LaneId)].deferred = .park ∧
      ∀ k : LaneId, k ≠ 8 → s.Parked k := by
  refine ⟨rfl, rfl, rfl, rfl, rfl, rfl, fun k hk => ?_⟩
  have h : ((allParked .aborting .parking []).modLane 8 fun _ => { busyLane .fetching op with deferred := .park }).lanes[k] =
      (allParked .aborting .parking []).lanes[k] := by
    rw [State.modLane_lanes, modAt_getElem, if_neg (Ne.symm hk)]
  have p := parked_all .aborting .parking [] k
  rw [State.Parked, ← h] at p
  exact p

/-- A park wave of bay 1 on the link, with another in bay 0 behind it, and with none. -/
theorem witness_park_wave (rest : List Wave) :
    let w : Wave := { openingWave with source := .park }
    let s := withFrame { allParked .parkWaves .parking [] with link := { (linked on).link with parkDue := rest } }
      ⟨1, .wave w [], .park, true⟩
    s.host.passage = .parkWaves ∧ s.host.device = .parking ∧ s.arbiter.walkOwed = false ∧
      s.link.frame = some ⟨1, .wave w [], .park, true⟩ ∧ w.bay = 1 ∧ s.link.bays[w.bay].state = .online ∧ s.link.parkDue = rest ∧
      s.NoOrders :=
  ⟨rfl, rfl, rfl, rfl, rfl, rfl, rfl, no_orders_carrying closingWave .park true⟩

/-! ## The bay link: grants, drops and discovery -/

/-- Position 0 is the last that the search reaches: context 0 has no wave and SENSE frames for the bays 6, which is not ONLINE, and 1. -/
theorem witness_grant_sense :
    let s := (linked on).modContext 0 fun _ => { Context.reset with senseDue := [6, 1], verifySet := [1100, 1101, 1200] }
    s.link.frame = none ∧ s.pollPending = false ∧ s.followUpFrame = none ∧ s.keepAliveBay = none ∧ s.reprobeBay = none ∧
      (∀ j : Fin 9, j < 8 → (s.positionOffer (Fin.ofNat 9 (s.link.pointer.val + 1 + j.val))).isNone = true) ∧
      (0 : SiteId).val = (s.link.pointer.val + 1 + (8 : Fin 9).val) % 9 ∧
      s.contexts[(0 : SiteId)].due.find? s.waveEligible = none ∧
      (s.contexts[(0 : SiteId)].senseDue.find? fun c => decide (s.link.bays[c].state = .online)) = some 1 ∧
      ascendingSet s.contexts[(0 : SiteId)].verifySet ∧ (s.link.rate.isSome = true ∧ s.link.discovery.stage = .inactive) := by decide

/-- Position 8 with a park wave, after eight positions that offer nothing; and a cleanup wave at position 0. -/
theorem witness_grant_park :
    let w : Wave := { openingWave with source := .park }
    let s := { linked on with link := { (linked on).link with parkDue := [w] } }
    let cleanup := offering { openingWave with source := .cleanup }
    (s.link.frame = none ∧ s.pollPending = false ∧ s.followUpFrame = none ∧ s.keepAliveBay = none ∧ s.reprobeBay = none ∧
      (∀ j : Fin 9, j < 7 → (s.positionOffer (Fin.ofNat 9 (s.link.pointer.val + 1 + j.val))).isNone = true) ∧
      (8 : Fin 9).val = (s.link.pointer.val + 1 + (7 : Fin 9).val) % 9 ∧ s.link.parkDue.find? s.waveEligible = some w) ∧
      (∀ j : Fin 9, j < 8 → (cleanup.positionOffer (Fin.ofNat 9 (cleanup.link.pointer.val + 1 + j.val))).isNone = true) ∧
      cleanup.contexts[(0 : SiteId)].due.find? cleanup.waveEligible = some { openingWave with source := .cleanup } := by decide

/-- A NAK, a STATUS reply and a final failure that drop ONLINE bay 1; and a HELD bay whose frame fails for the second time. -/
theorem witness_drops :
    DropsBay (carrying closingWave (.context 7) false) (.waveNak 1) 1 .held ∧
      DropsBay (withFrame (linked on) ⟨1, .status, .keepAlive, false⟩) (.statusReply 1) 1 .held ∧
      DropsBay (withFrame (linked on) ⟨1, .status, .keepAlive, true⟩) (.frameFinalFailure .noReply) 1 .faulted ∧
      (withFrame (withBay (linked on) 1 .held) ⟨1, .status, .followUp, true⟩).link.bays[(1 : BayId)].state = .held ∧
      (withFrame (withBay (linked on) 1 .held) ⟨1, .status, .followUp, true⟩).Quiet :=
  ⟨⟨rfl, _, rfl, .inl ⟨closingWave, [], 1, rfl, rfl, rfl, rfl⟩⟩,
    ⟨rfl, _, rfl, .inr (.inl ⟨rfl, rfl, rfl, 1, rfl, by decide⟩)⟩,
    ⟨rfl, _, rfl, .inr (.inr ⟨nofun, rfl, rfl, nofun, nofun, rfl, .noReply, rfl⟩)⟩, rfl, rfl, rfl⟩

/-- Bay 1 drops by a failed STATUS: with a VERIFY whose verify set is in it and one whose set is not, with a SCAN whose column is in it,
and with orders that touch no relay of it or have not passed. -/
theorem witness_drop_orders :
    let fails := fun s : State => withFrame s ⟨1, .status, .keepAlive, true⟩
    let verify := fun set => fails ((linked on).modContext 5 fun _ => { mismatchContext with senseDue := [], verifySet := set })
    let scan := fails ((scanning 4 (scanOrder 1 2 1) .await).modContext 7 fun c => { c with column := some 64 })
    let touching := fails (planned id)
    let untouched := fails ((planned id).setPlan 7 none)
    let unpassed := fails (planned fun c => { c with passed := false })
    (∃ r ∈ (verify [1100]).contexts[(5 : SiteId)].verifySet, relayBay r = 1) ∧
      (¬ ∃ r ∈ (verify [1000]).contexts[(5 : SiteId)].verifySet, relayBay r = 1) ∧
      (scan.contexts[(7 : SiteId)].column = some 64 ∧ columnBay 64 = 1 ∧ scan.contexts[(7 : SiteId)].passed = true ∧
        scan.contexts[(7 : SiteId)].ending = none ∧ scan.contexts[(7 : SiteId)].scanPhase = .await) ∧
      (touching.contexts[(7 : SiteId)].passed = true ∧ touching.plans[(7 : SiteId)] = some aPlan ∧
        ∃ r ∈ aPlan.opening ++ aPlan.closing, relayBay r = 1) ∧
      (untouched.plans[(7 : SiteId)] = none ∧ untouched.contexts[(7 : SiteId)].disconnect ++ untouched.contexts[(7 : SiteId)].connect = [] ∧
        untouched.contexts[(7 : SiteId)].verifySet = [] ∧ ∀ w ∈ untouched.contexts[(7 : SiteId)].due, w.source ≠ .cleanup) ∧
      unpassed.contexts[(7 : SiteId)].passed = false := by
  refine ⟨⟨1100, List.mem_singleton_self _, by decide⟩, ?_, ⟨rfl, rfl, rfl, rfl, rfl⟩, ⟨rfl, rfl, _, List.mem_singleton_self _, by decide⟩,
    ⟨rfl, rfl, rfl, nofun⟩, rfl⟩
  rintro ⟨r, hr, h⟩
  cases List.mem_singleton.1 hr
  exact absurd h (by decide)

theorem drops_of_fails (s : State) (h : s.link.bays[(1 : BayId)].state = .online) :
    DropsBay (withFrame s ⟨1, .status, .keepAlive, true⟩) (.frameFinalFailure .noReply) 1 .faulted :=
  ⟨h, _, rfl, .inr (.inr ⟨nofun, rfl, rfl, nofun, nofun, rfl, .noReply, rfl⟩)⟩

/-- The context of the SENSE replies is sound, before its first reply and after the seven mismatches of bay 3, and its verify set ascends. -/
theorem witness_sense_sound : mismatchContext.Sound ∧ ascendingSet mismatchContext.verifySet :=
  ⟨⟨by decide, by decide, by decide, by decide⟩, by decide⟩

/-- The last probe of the last pass, with bay 6 silent; the one bay that waits at its limit and on its re-probe; and wear areas that are
aligned and not. -/
theorem witness_discovery_ends (rep : Bool) :
    let d := fun (x : Discovery) frame => { discovering x frame with link := { (discovering x frame).link with rate := some 2 } }
    let last := d ⟨.pass, [], [6], []⟩ (some ⟨7, .probe, .discovery, rep⟩)
    let waits := d ⟨.waiting, [], [], [⟨7, 0, 0, false⟩]⟩ none
    let probed := d ⟨.waiting, [], [], [⟨7, 0, 0, true⟩]⟩ (some ⟨7, .probe, .discovery, rep⟩)
    (last.link.frame = some ⟨7, .probe, .discovery, rep⟩ ∧ last.link.bays[(7 : BayId)].state = .probing ∧
      last.link.discovery = ⟨.pass, [], [6], []⟩ ∧ last.link.rate = some 2 ∧ last.arbiter.walkOwed = false ∧
      (7 : BayId) ∉ last.link.discovery.silent) ∧
      (waits.link.discovery.stage = .waiting ∧ waits.link.discovery.waiting = [⟨7, 0, 0, false⟩] ∧ waits.link.frame = none ∧
        50000 ≤ ((50000 : Time) - 0).toNat ∧ ((999 : Time) - 0).toNat < 1000 ∧ 1000 ≤ ((1000 : Time) - 0).toNat) ∧
      (probed.link.frame = some ⟨7, .probe, .discovery, rep⟩ ∧ probed.link.bays[(7 : BayId)].state = .probing ∧
        probed.link.discovery.stage = .waiting ∧ probed.link.discovery.waiting = [⟨7, 0, 0, true⟩]) ∧
      last.health.wearArea.toNat % 64 = 0 ∧ (63 : Addr).toNat % 64 ≠ 0 ∧ (64 : Addr).toNat % 64 = 0 ∧
      (1 : Byte) ≠ last.cfg.bays[(7 : BayId)].model ∧ (0 : Byte) = last.cfg.bays[(7 : BayId)].model ∧ (1 : Byte).getLsbD 0 = true := by
  cases rep <;> decide

/-! ## Live rows and the waves in hand -/

theorem nothing_waits (s : State) (n : SiteId) (h : s.arbiter.waiting = []) : NotWaiting s n := fun e he => by rw [h] at he; cases he

/-- The live check of a wave of one relay on a live row that the first disconnect path of a SWITCH holds. -/
theorem decides_one (s : State) (n : SiteId) (w : Wave) (r : RelayNo) (p : PathId) (o : Order) (hw : w.relays = [r])
    (live : s.rowLive (relayRow r) = true) (hh : s.arbiter.holders[relayRow r] = .path p) (order : s.contexts[n].order = some o)
    (kind : o.kind ≠ .scan) (ds : s.contexts[n].disconnect = [p]) :
    s.Decides w s.paths[p].policy ∧ s.HotIndex n w s.paths[p].policy (some 0) := by
  have owned : ∀ x, (∃ r ∈ w.relays, s.rowLive (relayRow r) = true ∧ s.PolicyOf r x) ↔ x = s.paths[p].policy := fun x => by
    rw [hw]
    constructor
    · rintro ⟨y, hy, -, h⟩
      cases List.mem_singleton.1 hy
      rwa [State.PolicyOf, hh] at h
    · rintro rfl
      exact ⟨r, List.mem_singleton_self r, live, by rw [State.PolicyOf, hh]⟩
  refine ⟨⟨⟨r, by rw [hw]; exact List.mem_singleton_self r, live⟩, ?_⟩, o, order, .inl ⟨kind, .inl ⟨0, rfl, .inl ⟨p, by rw [ds]; rfl, rfl, r,
    ?_, hh⟩, nofun⟩⟩⟩
  · simp only [owned]
    cases s.paths[p].policy <;> simp
  · rw [State.hotSet, hw]
    simp [live]

/-- The rows 14 and 15 are live and held by PATH(1), of a policy; context 7 has its next closing wave of bay 1, of row 15, due by its
spacing timer, with and without a held wave before it. -/
def liveWave (policy : HotPolicy) (hotWait : Word32) (held : Option HeldWave) (queue : List Wave) (level : Bool) : State :=
  let s := (planned fun c => { c with
    order := some { aSwitch with hotWait := hotWait }, disconnect := [1], spacingTimers := setAt (.replicate 8 none) 1 (some five)
    nextClosings := setAt (.replicate 8 []) 1 [closingWave], held := held, holdQueue := queue })
  let s := ((s.modPath 1 fun p => { p with policy := policy }).setHolder 14 (.path 1)).setHolder 15 (.path 1)
  { atTime 5 s with live :=
    { enable := setAt (setAt (.replicate 16 false) 14 true) 15 true, line := setAt (setAt (.replicate 16 false) 14 true) 15 level } }

def queuedWave : Wave := { closingWave with relays := [crosspoint 14 127] }

/-- A live check under each policy, with a hot-wait limit of 0 and one above it, and with a wave held before it and none. -/
theorem witness_live_check (policy : HotPolicy) (hotWait : Word32) (held : Option HeldWave) :
    let s := liveWave policy hotWait held [] true
    s.Quiet ∧ s.contexts[(7 : SiteId)].spacingTimers[(1 : BayId)] = some five ∧ s.Ran five ∧
      s.contexts[(7 : SiteId)].nextClosings[(1 : BayId)] = [closingWave] ∧
      s.contexts[(7 : SiteId)].order = some { aSwitch with hotWait := hotWait } ∧ s.contexts[(7 : SiteId)].ending = none ∧
      s.contexts[(7 : SiteId)].held = held ∧ s.inFlight 7 = false ∧ s.contexts[(7 : SiteId)].scanPhase = .none ∧ NotWaiting s 7 ∧
      s.Decides closingWave policy ∧ s.HotIndex 7 closingWave policy (some 0) :=
  ⟨⟨rfl, rfl⟩, rfl, (by decide : 5 ≤ ((5 : Time) - 0).toNat), rfl, rfl, rfl, rfl, rfl, rfl,
    nothing_waits _ 7 rfl,
    decides_one (liveWave policy hotWait held [] true) 7 closingWave _ 1 _ rfl rfl rfl rfl nofun rfl⟩

/-- A wave with no relay on a live row. -/
theorem witness_cold : ∀ r ∈ closingWave.relays, (planned id).rowLive (relayRow r) = false := forall_of_all (by decide)

/-- An edge of row 15 on a held wave of that row: a rise that leaves the wave live, and a fall that leaves it cold, with nothing behind
it, with a cold wave, and with a wave of row 14, which stays live. -/
theorem witness_live_recheck (policy : HotPolicy) (hotWait : Word32) (queue : List Wave) (level : Bool) :
    let s := liveWave policy hotWait (some ⟨closingWave, 0, some 3⟩) queue (!level)
    let u := liveWave policy hotWait (some ⟨closingWave, 0, some 3⟩) queue level
    (s.live.enable[(15 : RowId)] = true ∧ s.live.line[(15 : RowId)] ≠ level ∧
      s.contexts[(7 : SiteId)].held = some ⟨closingWave, 0, some 3⟩ ∧ s.contexts[(7 : SiteId)].holdQueue = queue ∧
      (∃ x ∈ closingWave.relays, relayRow x = 15) ∧ Going s 7 ∧ NotWaiting s 7) ∧
      ({ s with live := { s.live with line := setAt s.live.line 15 level } } : State).live = u.live ∧
      (level = false → ∀ x ∈ closingWave.relays, u.rowLive (relayRow x) = false) ∧
      (level = true → u.Decides closingWave policy ∧ u.HotIndex 7 closingWave policy (some 0)) ∧
      u.Decides queuedWave policy ∧ u.HotIndex 7 queuedWave policy (some 0) := by
  refine ⟨⟨rfl, by cases level <;> nofun, rfl, rfl, ⟨_, List.mem_singleton_self _, by decide⟩, ⟨rfl, rfl, rfl⟩,
    nothing_waits _ 7 rfl⟩, by cases level <;> rfl, ?_, ?_,
    decides_one (liveWave policy hotWait (some ⟨closingWave, 0, some 3⟩) queue level) 7 queuedWave _ 1 _ rfl rfl rfl rfl nofun rfl⟩
  · rintro rfl x hx
    cases List.mem_singleton.1 hx
    rfl
  · rintro rfl
    exact decides_one (liveWave policy hotWait (some ⟨closingWave, 0, some 3⟩) queue true) 7 closingWave _ 1 _ rfl rfl rfl rfl nofun rfl
theorem witness_one_holds : ∀ m : SiteId, m ≠ 7 →
    (liveWave .wait 5 (some ⟨closingWave, 0, some 3⟩) [queuedWave] true).contexts[m].held = none := by
  decide

/-! ## Scans at work -/

/-- Context 7 with a scan of row 0 in a phase, as `f` makes it, in a part whose gap is 9. -/
def scanAt (advance : Byte) (phase : ScanPhase) (f : Context → Context) : State :=
  let s := (scanning 5 (scanOrder advance 2 1) phase).modContext 7 f
  { s with cfg := { s.cfg with gap := 9 } }

theorem scan_at_basics (advance : Byte) (phase : ScanPhase) (f : Context → Context) :
    (scanAt advance phase f).Quiet ∧ (scanAt advance phase f).Ran five ∧ (scanAt advance phase f).NoLiveRow ∧
      (scanAt advance phase f).inFlight 7 = false ∧ NotWaiting (scanAt advance phase f) 7 ∧ (scanAt advance phase f).arbiter.waiting = [] :=
  ⟨⟨rfl, rfl⟩, (by decide : 5 ≤ ((5 : Time) - 0).toNat), fun r => (by decide : ∀ r : RowId, on.rowLive r = false) r, rfl,
    nothing_waits _ 7 rfl, rfl⟩

/-- The end of a step's break in bay 0, alone; the end of its gap; and the end of a guard's settle, in a part whose bay 0 is ONLINE, HELD
or FAULTED, with the relays of column 63 fit or one of them RETIRED. -/
theorem witness_scan_phases :
    let brk := scanAt 1 .stepBreak fun c => { c with stepIndex := 1, breakTimers := setAt (.replicate 8 .absent) 0 (.running five) }
    let gap := scanAt 1 .stepGap fun c => { c with stepIndex := 1, column := some 64, gapTimer := some five }
    let guard := scanAt 1 .guard fun c => { c with column := none, settleTimer := some five }
    let retired := { guard with health := { guard.health with retired := [isolation 0 0] } }
    (brk.contexts[(7 : SiteId)].breakTimers[(0 : BayId)] = .running five ∧ brk.contexts[(7 : SiteId)].scanPhase = .stepBreak ∧
      (∀ d : BayId, d ≠ 0 → brk.contexts[(7 : SiteId)].breakTimers[d] = .absent) ∧ 0 < brk.cfg.gap.toNat) ∧
      (gap.contexts[(7 : SiteId)].gapTimer = some five ∧ gap.contexts[(7 : SiteId)].scanPhase = .stepGap ∧
        gap.contexts[(7 : SiteId)].column = some 64 ∧ gap.contexts[(7 : SiteId)].ending = none) ∧
      (guard.contexts[(7 : SiteId)].settleTimer = some five ∧ guard.contexts[(7 : SiteId)].scanPhase = .guard ∧
        guard.contexts[(7 : SiteId)].ending = none ∧ guard.contexts[(7 : SiteId)].column = none ∧
        guard.contexts[(7 : SiteId)].scanOps.column 0 = 63 ∧ columnBay 63 = 0 ∧ guard.link.bays[(0 : BayId)].state = .online ∧
        guard.contexts[(7 : SiteId)].scanOps.rowId = 0 ∧ ∀ x, guard.isRetired x = false) ∧
      ((withBay guard 0 .held).link.bays[(0 : BayId)].state = .held ∧ (withBay guard 0 .faulted).link.bays[(0 : BayId)].state = .faulted ∧
        retired.isRetired (isolation 0 0) = true) := by
  refine ⟨by decide, by decide, ⟨rfl, rfl, rfl, rfl, by decide, by decide, rfl, by decide, fun x => rfl⟩, rfl, rfl, by decide⟩

/-- The advance into column 64 of bay 1, which is HELD, or ABSENT, or whose isolation relay is RETIRED, with relays CLOSED in column 63. -/
theorem witness_advance_fails :
    let s := scanAt 1 .await id
    let held := withBay s 1 .held
    let absent := withBay s 1 .absent
    let retired := { s with health := { s.health with retired := [isolation 1 0] } }
    AdvancesStep held 7 (.stpEdge 7) ∧ Going held 7 ∧ held.contexts[(7 : SiteId)].passed = true ∧
      held.contexts[(7 : SiteId)].column = some 63 ∧ held.contexts[(7 : SiteId)].stepIndex + 1 < held.contexts[(7 : SiteId)].scanOps.count ∧
      (held.cleanupWave held.contexts[(7 : SiteId)].scanOps.rowId 63).relays ≠ [] ∧
      held.contexts[(7 : SiteId)].scanOps.column (held.contexts[(7 : SiteId)].stepIndex + 1) = 64 ∧ columnBay 64 = 1 ∧
      held.link.bays[(1 : BayId)].state = .held ∧ absent.link.bays[(1 : BayId)].state = .absent ∧
      (retired.link.bays[(1 : BayId)].state = .online ∧ retired.isRetired (isolation 1 0) = true) ∧
      AdvancesStep (withBay (scanAt 2 .await id) 1 .held) 7 (.stepWaitExpiry 7) :=
  ⟨⟨rfl, .inr (.inl ⟨rfl, by decide⟩)⟩, ⟨rfl, rfl, rfl⟩, rfl, rfl, by decide, by decide, by decide, by decide, rfl, rfl, ⟨rfl, by decide⟩,
    ⟨rfl, .inr (.inr ⟨rfl, by decide, five, rfl, (by decide : 5 ≤ ((5 : Time) - 0).toNat)⟩)⟩⟩

/-- Lane 7 runs a scan at column 63, with its relays CLOSED, in a phase, with an ending or none. -/
def atWork (phase : ScanPhase) (ending : Option Code) (due : List Wave) : State :=
  (scanAt 1 phase fun c => { c with ending := ending, due := due }).modLane (siteLane 7) fun _ =>
    { Lane.reset with state := .running, held := some (heldRecord 4 0) }

/-- An abort of a scan in each phase, with the relays of its column CLOSED and with none. -/
theorem witness_scan_abort (phase : ScanPhase) (ending : Option Code) (due : List Wave) :
    let s := atWork phase ending due
    (7 : BitVec 16).toNat = (7 : SiteId).val ∧ s.host.device = .enabled ∧ s.lanes[siteLane 7].state = .running ∧
      s.lanes[siteLane 7].access = none ∧ s.contexts[(7 : SiteId)].order = some (scanOrder 1 2 1) ∧ (scanOrder 1 2 1).kind = .scan ∧
      s.inFlight 7 = false ∧ s.contexts[(7 : SiteId)].passed = true ∧ s.contexts[(7 : SiteId)].ending = ending ∧
      s.contexts[(7 : SiteId)].due = due ∧ s.contexts[(7 : SiteId)].scanPhase = phase ∧ s.contexts[(7 : SiteId)].column = some 63 ∧
      (s.cleanupWave s.contexts[(7 : SiteId)].scanOps.rowId 63).relays ≠ [] ∧
      (({ s with image := { s.image with closed := [] } } : State).cleanupWave s.contexts[(7 : SiteId)].scanOps.rowId 63).relays = [] := by
  refine ⟨by decide, rfl, rfl, rfl, rfl, rfl, rfl, rfl, rfl, rfl, rfl, rfl, ?_, rfl⟩
  exact (by decide : ((scanAt 1 .await id).cleanupWave (scanAt 1 .await id).contexts[(7 : SiteId)].scanOps.rowId 63).relays ≠ [])

/-- R140: PARK_ALL of a scan at work offers its cleanup wave; in the break hold of its cleanup the scan ends. -/
theorem test_park_scan :
    after .parkAll (atWork .await none []) (fun t =>
        t.contexts[(7 : SiteId)].ending == some .aborted && t.contexts[(7 : SiteId)].scanPhase == .cleanup &&
          (t.contexts[(7 : SiteId)].due.map fun w => w.relays) == [[crosspoint 0 63, isolation 0 0]]) = true ∧
      after .parkAll (atWork .cleanup none []) (fun t =>
        t.contexts[(7 : SiteId)].order == none && t.lanes[siteLane 7].final == .aborted) = true := by decide

/-- PARK_ALL winds the orders down. -/
def windingDown (s : State) : State := { s with host := { s.host with passage := .aborting, device := .parking } }

/-- A wave of a scan at work that has taken an ending, on the link. -/
theorem witness_step_frame (phase : ScanPhase) (code : Code) (repeated : Bool) :
    let s := windingDown (withFrame (atWork phase (some code) []) ⟨1, .wave closingWave [], .context 7, repeated⟩)
    s.arbiter.walkOwed = false ∧ s.host.passage = .aborting ∧ s.link.frame = some ⟨1, .wave closingWave [], .context 7, repeated⟩ ∧
      s.link.bays[closingWave.bay].state = .online ∧ s.lanes[siteLane 7].state = .running ∧ closingWave.source = .planned ∧
      (∀ r ∈ closingWave.relays, relayBay r = closingWave.bay) ∧ s.contexts[(7 : SiteId)].scanPhase = phase ∧
      s.contexts[(7 : SiteId)].passed = true ∧ NotWaiting s 7 ∧ s.contexts[(7 : SiteId)].ending = some code ∧
      s.contexts[(7 : SiteId)].column = some 63 :=
  ⟨rfl, rfl, rfl, rfl, rfl, rfl, forall_of_all (by decide), rfl, rfl, nothing_waits _ 7 rfl, rfl, rfl⟩

/-- A cleanup wave on the link, of a scan that has taken an abort and of one that has not, also while PARK_ALL winds the orders down. -/
theorem witness_cleanup_ack (aborted : Bool) (ending : Option Code) :
    let w : Wave := ⟨0, false, [crosspoint 0 63, isolation 0 0], 5, 0, [], .cleanup⟩
    let s := withFrame ((atWork .cleanup ending []).modContext 7 fun c => { c with abortTaken := aborted })
      ⟨0, .wave w [], .context 7, true⟩
    s.Quiet ∧ s.link.frame = some ⟨0, .wave w [], .context 7, true⟩ ∧ w.source = .cleanup ∧ s.link.bays[w.bay].state = .online ∧
      s.contexts[(7 : SiteId)].scanPhase = .cleanup ∧ s.contexts[(7 : SiteId)].due = [] ∧
      s.contexts[(7 : SiteId)].abortTaken = aborted ∧ s.contexts[(7 : SiteId)].ending = ending ∧ 0 < w.span ∧ NotWaiting s 7 ∧
      s.contexts[(7 : SiteId)].cleanupHold = none ∧ (windingDown s).arbiter.walkOwed = false ∧ (windingDown s).host.passage = .aborting ∧
      (windingDown s).lanes[siteLane 7].state = .running ∧ NotWaiting (windingDown s) 7 :=
  ⟨⟨rfl, rfl⟩, rfl, rfl, rfl, rfl, rfl, rfl, rfl, by decide, nothing_waits _ 7 rfl, rfl, rfl, rfl, rfl, nothing_waits _ 7 rfl⟩

/-- The end of the break hold of a scan with guard path 1, which has the row 15 and the column 127 of bay 1: its two relays are CLOSED, or
none is, in an ONLINE or a HELD bay. -/
def guarding (closed : List RelayNo) (bay : BayState) : State :=
  let s := (scanAt 1 .cleanup fun c => { c with cleanupHold := some five, connect := [1] }).modPath 1 fun p =>
    { p with state := .pending, prior := some .idle, site := 7, crosspoints := [(15, 127)], rowSet := [15] }
  let s := withBay (s.setHolder 15 (.path 1)) 1 bay
  { s with image := { s.image with closed := closed } }

theorem relay_set_of_guarding (closed : List RelayNo) (bay : BayState) :
    (guarding closed bay).relaySet 1 = [crosspoint 15 127, isolation 1 15] := by
  have e : (guarding closed bay).relaySet 1 = (guarding [] .online).relaySet 1 := by
    simp only [State.relaySet, State.pathCrosspoints, State.pathIsolations, State.pathHolds]; rfl
  rw [e]; decide

theorem witness_guard_disconnects (bay : BayState) :
    let s := guarding [crosspoint 15 127, isolation 1 15] bay
    s.contexts[(7 : SiteId)].cleanupHold = some five ∧ s.contexts[(7 : SiteId)].ending = none ∧ s.contexts[(7 : SiteId)].connect = [1] ∧
      s.contexts[(7 : SiteId)].disconnect = [] ∧ s.contexts[(7 : SiteId)].due = [] ∧
      (∀ b : BayId, s.contexts[(7 : SiteId)].breakTimers[b] = .absent) ∧
      ascendingSet ([crosspoint 15 127, isolation 1 15] : List RelayNo) ∧
      (∀ x, x ∈ [crosspoint 15 127, isolation 1 15] ↔ x ∈ s.relaySet 1 ∧ x ∈ s.image.closed) ∧
      (∀ x, x ∈ ([] : List RelayNo) ↔ x ∈ (guarding [] bay).relaySet 1 ∧ x ∈ (guarding [] bay).image.closed) ∧
      (∀ x ∈ [crosspoint 15 127, isolation 1 15], s.link.bays[relayBay x].state = bay) := by
  refine ⟨rfl, rfl, rfl, rfl, rfl, fun b => Vector.getElem_replicate b.isLt, by decide, fun x => ?_, fun x => ⟨nofun, fun h => nomatch h.2⟩,
    fun x hx => ?_⟩
  · rw [relay_set_of_guarding]
    exact ⟨fun h => ⟨h, h⟩, fun h => h.1⟩
  · have b : relayBay x = 1 := (forall_of_all (by decide) : ∀ x ∈ [crosspoint 15 127, isolation 1 15], relayBay x = 1) x hx
    exact (congrArg (fun b : BayId => (guarding [crosspoint 15 127, isolation 1 15] bay).link.bays[b].state) b).trans rfl

/-- The end of the break of a guard's disconnection, of a scan that holds row 0. -/
theorem witness_guard_off :
    let s := (scanAt 1 .guardOff fun c =>
      { c with breakTimers := setAt (.replicate 8 .absent) 1 (.running five) }).setHolder 0 (.scan 7)
    s.contexts[(7 : SiteId)].breakTimers[(1 : BayId)] = .running five ∧ s.contexts[(7 : SiteId)].scanPhase = .guardOff ∧
      (∀ d : BayId, d ≠ 1 → s.contexts[(7 : SiteId)].breakTimers[d] = .absent) ∧ s.arbiter.waiting = [] ∧
      s.contexts[(7 : SiteId)].passed = true ∧ s.contexts[(7 : SiteId)].unjudged = false ∧ s.arbiter.holders[(0 : RowId)] = .scan 7 := by
  decide

/-! ## The laws -/

theorem witness_image_sound : (settled 0).ImageSound :=
  ⟨by decide, forall_of_all (by decide), fun b _ => (by decide : ∀ b : BayId, on.image.windows[b] = none) b⟩

/-- A relay whose counter has reached its warn threshold, and its WORN mark. -/
def marked : State :=
  let s := { wearExample with cfg := { wearExample.cfg with bays := .replicate 8 ⟨1, 1, 1, 16, 0⟩, expected := 0xFF } }
  { s with health := { s.health with wear := [(2360, 100000)], worn := [2360] } }

theorem wear_of_marked (n : RelayNo) : marked.wearOf n = if n = 2360 then 100000 else 0 := by
  simp only [marked, State.wearOf, wearLookup]
  split <;> rename_i h
  · rw [if_pos h.symm]
  · rw [if_neg fun e => h e.symm]

theorem thresholds_of_marked (n : RelayNo) : marked.relayThresholds n = ⟨100000, 1000000⟩ := by
  have e : ∀ b : BayId, expectedBay marked.cfg.expected b = true := by decide
  have ty : marked.relayType n = 1 := by
    have h : ∀ b : BayId, marked.cfg.bays[b].isolationType = 1 ∧ marked.cfg.bays[b].crosspointType = 1 := by decide
    rw [State.relayType]
    split
    · exact (h _).1
    · exact (h _).2
  have th : ∀ i : TypeId, i = 1 → marked.health.thresholds[i] = ⟨100000, 1000000⟩ := fun i h => by subst h; rfl
  rw [State.relayThresholds, if_pos (e _)]
  exact th _ ty

theorem witness_marks_sound : marked.WearSound ∧ marked.MarksSound := by
  refine ⟨⟨by decide, forall_of_all (by decide), forall_of_all (by decide)⟩, by decide, .nil, fun n => ?_, fun n => ?_⟩
  · rw [thresholds_of_marked, wear_of_marked]
    show n ∈ [(2360 : RelayNo)] ↔ _
    split <;> simp_all
  · rw [thresholds_of_marked, wear_of_marked]
    refine ⟨nofun, fun h => ?_⟩
    have := h.2
    revert this
    split <;> simp

theorem witness_lanes_sound : (halted 8).LanesSound ∧ (halted 8).ContextsSound := by
  refine ⟨fun n => ?_, fun n => ?_⟩
  · have h : ∀ n : LaneId, ((halted 8).lanes[n].halt.isSome = true ↔ (halted 8).lanes[n].state = .halted) ∧
        ((halted 8).lanes[n].pollTimer.isSome = true → (halted 8).lanes[n].state = .idle) ∧
        (halted 8).lanes[n].missed ≤ 65535 ∧ (halted 8).lanes[n].snapshot ≤ 65535 := by decide
    exact ⟨(h n).1, (h n).2.1, (h n).2.2.1, (h n).2.2.2⟩
  · have h : ∀ n : SiteId, (halted 8).contexts[n].stepTimeouts ≤ 65535 ∧ (halted 8).contexts[n].acc.mismatchCount ≤ 255 ∧
        (halted 8).contexts[n].acc.mismatches = [] := by decide
    exact ⟨(h n).1, (h n).2.1, by rw [(h n).2.2]; exact Nat.zero_le _, by rw [(h n).2.2]; exact .nil⟩

/-- A site lane that runs an order, with no path defined and no row waiting, is a sound state; and it steps. -/
theorem witness_paths_sound :
    running.PathsSound ∧ running.ClaimsSound ∧ ∃ t, step { running with pending := [.settleTimerExpiry 7] } = .next t := by
  have contexts : ∀ n : SiteId, running.contexts[n].disconnect ++ running.contexts[n].connect = [] ∧
      (running.contexts[n].order.isSome = true → running.lanes[siteLane n].state = .running ∧ running.lanes[siteLane n].access = none) := by
    decide
  exact ⟨(paths_sound_bare running rfl rfl fun n => (contexts n).1).1, ⟨.nil, nofun, nofun, fun n => (contexts n).2, rfl⟩, _, rfl⟩

/-- A PENDING path keeps its definition over a command, and so does a BROKEN one. -/
theorem witness_definition_stands :
    isReset .waveAck = false ∧ (guarding [] .online).host.passage ≠ .wearLoad 519 ∧
      (guarding [] .online).paths[(1 : PathId)].state = .pending ∧
      ((guarding [] .online).modPath 1 fun p => { p with state := .broken }).Connected 1 := ⟨rfl, nofun, rfl, .inr rfl⟩

/-- A read in flight with a park waiting for it, while PARK_ALL reaches the lanes. -/
theorem witness_waiting_park :
    let s := withLane 8 { busyLane .fetching .linkRead with deferred := .park }
    let s := { s with host := { s.host with passage := .aborting, device := .parking } }
    s.lanes[(8 : LaneId)].access = some ⟨.linkRead, pendingAccess⟩ ∧ s.lanes[(8 : LaneId)].deferred = .park ∧
      s.arbiter.walkOwed = false ∧ s.host.passage = .aborting := ⟨rfl, rfl, rfl, rfl⟩

/-- The write of TAKEN that the completion of the first result write issues. -/
theorem witness_states_follow :
    let s := withLane 3 { busyLane .fetching .startResult with held := some (heldRecord 1 0) }
    ∃ t x, exec (.startResultWriteDone 3 7 true) s = .next t ∧ t.lanes[(3 : LaneId)].access = some x ∧
      s.lanes[(3 : LaneId)].access ≠ some x ∧ x.op = .taken :=
  ⟨_, ⟨.taken, ⟨0, 0, .write 0x1000 [2]⟩⟩, rfl, by decide, by decide, rfl⟩

/-- A cause that stands, over a command that is neither a read of CAUSE nor a reset. -/
theorem witness_causes_stand :
    let s : State := { on with host := { on.host with cause := 0x40 } }
    exec (.busyWindowEnd 0) s = .next s ∧ isReset (.busyWindowEnd 0) = false ∧ (∀ bytes, Instr.busyWindowEnd 0 ≠ .causeRead bytes) ∧
      s.host.cause.getLsbD 6 = true :=
  ⟨rfl, rfl, nofun, rfl⟩

theorem witness_copies_stand :
    on.host.passage = .idle ∧ on.link.discovery.stage = .inactive ∧ isReset .waveAck = false ∧ on.mayLowerWear .waveAck = false :=
  ⟨rfl, rfl, rfl, rfl⟩

/-- A step that changes the state: the wear example's acknowledgement is at the front of the queue. -/
theorem witness_step : ∃ t, step { withFrame wearExample wearFrame with pending := [.waveAck] } = .next t := ⟨_, rfl⟩

/-! ## A frame in flight, PARK_ALL at a failed write, and the end of a pass -/

/-- Lane and context 7 run a SWITCH with a wave of theirs on the link, another one due, and an ending or none. -/
def awaiting (ending : Option Code) (w : Wave) (repeated : Bool) : State :=
  withFrame ((linked running).modContext 7 fun c =>
      { c with ending := ending, due := [openingWave], breakTimers := setAt (.replicate 8 .absent) 1 .notStarted })
    { bay := w.bay, body := .wave w [], owner := .context 7, repeated := repeated }

theorem frame_awaited (ending : Option Code) (w : Wave) (repeated : Bool) : FrameAwaited (awaiting ending w repeated) 7 :=
  ⟨rfl, rfl, nothing_waits _ 7 rfl⟩

theorem witness_frame_awaited (ending : Option Code) (w : Wave) (repeated : Bool) :
    let s := awaiting ending w repeated
    s.Quiet ∧ s.host.device = .enabled ∧ s.lanes[siteLane 7].state = .running ∧ s.lanes[siteLane 7].access = none ∧
      (7 : BitVec 16).toNat = (7 : SiteId).val ∧ (7 : SiteId).val = (7 : LaneId).val :=
  ⟨⟨rfl, rfl⟩, rfl, rfl, rfl, rfl, rfl⟩

/-- The frame of an order that has taken an ending: a closing and an opening wave, and their final failure. -/
theorem witness_frame_ends (code : Code) (closing repeated : Bool) :
    let w := if closing then closingWave else openingWave
    let s := awaiting (some code) w repeated
    s.Quiet ∧ s.link.frame = some ⟨w.bay, .wave w [], .context 7, repeated⟩ ∧ s.contexts[(7 : SiteId)].ending = some code ∧
      s.contexts[(7 : SiteId)].scanPhase = .none ∧ NotWaiting s 7 ∧ s.link.bays[w.bay].state = .online ∧ w.source = .planned ∧
      s.contexts[(7 : SiteId)].unjudged = false ∧ s.contexts[(7 : SiteId)].passed = true ∧ s.arbiter.waiting = [] := by
  cases closing <;> exact ⟨⟨rfl, rfl⟩, rfl, rfl, rfl, nothing_waits _ 7 rfl, rfl, rfl, rfl, rfl, rfl⟩

/-- The frame of an order that PARK_ALL has aborted, while it winds the orders down. -/
theorem witness_frame_unjudged (repeated : Bool) :
    let s := windingDown ((awaiting (some .aborted) closingWave repeated).modContext 7 fun c => { c with unjudged := true, due := [] })
    s.arbiter.walkOwed = false ∧ s.host.passage = .aborting ∧ s.link.frame = some ⟨1, .wave closingWave [], .context 7, repeated⟩ ∧
      s.contexts[(7 : SiteId)].ending = some .aborted ∧ s.contexts[(7 : SiteId)].scanPhase = .none ∧ NotWaiting s 7 ∧
      s.link.bays[closingWave.bay].state = .online ∧ s.contexts[(7 : SiteId)].unjudged = true ∧ s.arbiter.waiting = [] :=
  ⟨rfl, rfl, rfl, rfl, rfl, nothing_waits _ 7 rfl, rfl, rfl, rfl⟩

/-- R106: LANE_SKIP with a wave on the link: the due wave is withdrawn, and the order still runs; its acknowledgement then ends the
order, with one wave counted. -/
theorem test_skip_awaits_frame :
    after (.laneSkip 7) (awaiting none closingWave false) (fun t =>
        t.contexts[(7 : SiteId)].ending == some .aborted && t.contexts[(7 : SiteId)].due == [] &&
          t.lanes[siteLane 7].access == none && t.link.frame != none) = true ∧
      after .waveAck (awaiting (some .aborted) closingWave false) (fun t =>
        t.contexts[(7 : SiteId)] == .reset && t.image.closed == closingWave.relays && t.lanes[siteLane 7].final == .aborted) = true := by
  decide

/-- A SENSE reply to an order that has taken an ending. -/
theorem witness_sense_ends :
    let s := withFrame (withContext 5 { mismatchContext with senseDue := [], ending := some .aborted })
      { bay := 1, body := .sense [7, 20], owner := .context 5, repeated := false }
    s.Quiet ∧ s.contexts[(5 : SiteId)].ending = some .aborted ∧ s.contexts[(5 : SiteId)].scanPhase = .none ∧ NotWaiting s 5 ∧
      s.link.frame = some ⟨1, .sense [7, 20], .context 5, false⟩ ∧ (windingDown s).arbiter.walkOwed = false ∧
      (windingDown s).host.passage = .aborting ∧ NotWaiting (windingDown s) 5 :=
  ⟨⟨rfl, rfl⟩, rfl, rfl, nothing_waits _ 5 rfl, rfl, rfl, rfl, nothing_waits _ 5 rfl⟩

/-- PARK_ALL waits for a write of lane 8, of a record of each final state. -/
def parkedWrite (op : LaneOp) (final : FinalState) : State :=
  { (withLane 8 { busyLane .running op with
      cursor := .next 0x1000, held := some (heldRecord 9 3), final := final, deferred := .park }) with
    host := { on.host with device := .parking, passage := .aborting } }

theorem witness_parked_write (op : LaneOp) (final : FinalState) :
    let s := parkedWrite op final
    s.arbiter.walkOwed = false ∧ s.host.passage = .aborting ∧ s.lanes[(8 : LaneId)].access = some ⟨op, pendingAccess⟩ ∧
      s.lanes[(8 : LaneId)].deferred = .park ∧ s.lanes[(8 : LaneId)].final = final ∧
      s.lanes[(8 : LaneId)].held = some (heldRecord 9 3) := ⟨rfl, rfl, rfl, rfl, rfl, rfl⟩

/-- R56, R60, R172: a failed write of the end of a DONE record keeps the cursor NEXT; that of an ABORTED one leaves AT_TAIL. -/
theorem test_parked_write_error :
    after (.endResultWriteDone 8 7 false) (parkedWrite .endResult .done)
        (fun t => t.lanes[(8 : LaneId)].cursor == .next 0x1000 && t.lanes[(8 : LaneId)].halt == some .parked) = true ∧
      after (.stateWriteDone 8 7 false) (parkedWrite .finalState .aborted)
        (fun t => t.lanes[(8 : LaneId)].cursor == .atTail 0x1000 && t.host.cause == causeMemory) = true := by decide

/-- The last probe of a pass at each rate: with no bay silent, with bay 6 silent, and with bay 5 waiting. -/
theorem witness_pass_ends (rate : Fin 3) (rep : Bool) :
    let d := fun (x : Discovery) =>
      { discovering x (some ⟨7, .probe, .discovery, rep⟩) with
        link := { (discovering x (some ⟨7, .probe, .discovery, rep⟩)).link with rate := some rate } }
    let clean := d ⟨.pass, [], [], []⟩
    let silent := d ⟨.pass, [], [6], []⟩
    let waits := d ⟨.pass, [], [], [⟨5, 0, 0, false⟩]⟩
    (clean.link.frame = some ⟨7, .probe, .discovery, rep⟩ ∧ clean.link.bays[(7 : BayId)].state = .probing ∧
      clean.link.discovery = ⟨.pass, [], [], []⟩ ∧ clean.link.rate = some rate ∧ clean.arbiter.walkOwed = false) ∧
      (silent.link.discovery = ⟨.pass, [], [6], []⟩ ∧ silent.link.discovery.silent ≠ [] ∧ silent.link.rate = some rate) ∧
      (waits.link.discovery = ⟨.pass, [], [], [⟨5, 0, 0, false⟩]⟩ ∧ waits.link.discovery.waiting ≠ [] ∧
        ∀ x ∈ waits.link.discovery.waiting, x.bay ≠ 7) :=
  ⟨⟨rfl, rfl, rfl, rfl, rfl⟩, ⟨rfl, nofun, rfl⟩, rfl, nofun, fun _ h => by cases List.mem_singleton.1 h; decide⟩

/-- A probe within a pass, with a bay still to probe and another one waiting, and one whose reply is not ready. -/
theorem witness_pass_goes_on (rep : Bool) :
    let s := discovering ⟨.pass, [6], [], [⟨5, 0, 0, false⟩]⟩ (some ⟨7, .probe, .discovery, rep⟩)
    s.link.discovery.toProbe ≠ [] ∧ s.link.bays[(7 : BayId)].state = .probing ∧
      (∀ x ∈ s.link.discovery.waiting, x.bay ≠ 7) ∧ (0 : Byte) = s.cfg.bays[(7 : BayId)].model ∧ (0 : Byte).getLsbD 0 = false :=
  ⟨nofun, rfl, fun _ h => (by cases List.mem_singleton.1 h; decide), rfl, by decide⟩

/-- R166: a good reply ends a pass at 40 Mbit/s: with no bay silent discovery ends, with bay 6 silent the rate falls, and with bay 5
waiting discovery waits for it. -/
theorem test_pass_ends_by_reply :
    let d := fun (x : Discovery) => { discovering x (some ⟨7, .probe, .discovery, false⟩) with
      link := { (discovering x (some ⟨7, .probe, .discovery, false⟩)).link with rate := some 0 } }
    after (.discoveryProbeReply 0 1 0) (d ⟨.pass, [], [], []⟩) (fun t => t.host.passage == .wearLoad 0 && t.link.rate == some 0) = true ∧
      after (.discoveryProbeReply 0 1 0) (d ⟨.pass, [], [6], []⟩)
        (fun t => t.link.discovery == ⟨.pass, [7], [], []⟩ && t.link.rate == some 1) = true ∧
      after (.discoveryProbeReply 0 1 0) (d ⟨.pass, [], [], [⟨5, 0, 0, false⟩]⟩)
        (fun t => t.link.discovery == ⟨.waiting, [], [], [⟨5, 0, 0, false⟩]⟩ && t.link.rate == some 0) = true := by decide

/-! ## Sound claims, drops in a scan, and drops of waiting orders -/

/-- No row waits, and every order's lane is RUNNING and has reported no end. -/
theorem claims_sound_bare (s : State) (hw : s.arbiter.waiting = []) (ho : s.arbiter.walkOwed = false)
    (hc : ∀ n : SiteId, s.contexts[n].order.isSome = true →
      s.lanes[siteLane n].state = .running ∧ s.lanes[siteLane n].access = none) : s.ClaimsSound :=
  ⟨hw ▸ .nil, hw ▸ nofun, hw ▸ nofun, hc, ho⟩

/-- The states in which PARK_ALL and DISABLE find an IDLE lane, one with an access in flight, one in OFFSET, one that runs an order, and one
whose frame is on the link, with and without an ending. -/
theorem witness_park_all_sound :
    (withLane 0 { Lane.reset with state := .idle }).ClaimsSound ∧ (withLane 8 (busyLane .running .endResult)).ClaimsSound ∧
      (withLane 7 { Lane.reset with state := .offset }).ClaimsSound ∧ running.ClaimsSound ∧
      (awaiting none closingWave false).ClaimsSound ∧ (awaiting (some .bayHeld) closingWave false).ClaimsSound := by
  and_intros <;> exact claims_sound_bare _ rfl rfl (by decide)

/-- Bay 1 drops by a failed STATUS. -/
def fails (s : State) : State := withFrame s ⟨1, .status, .keepAlive, true⟩

/-- A scan of the columns 63 and 64, at column 63, in the break of its step to column 64 of bay 1, with its relays of bay 0 CLOSED or not. -/
def crossing (closed : List RelayNo) : State :=
  let s := (scanning 4 (scanOrder 1 2 1) .stepBreak).modContext 7 fun c => { c with stepIndex := 1 }
  fails { s with image := { s.image with closed := closed } }

theorem witness_drop_new_column :
    let s := crossing [crosspoint 0 63, isolation 0 0]
    let c := s.contexts[(7 : SiteId)]
    c.scanPhase = .stepBreak ∧ c.passed = true ∧ columnBay (c.scanOps.column c.stepIndex) = 1 ∧ c.column = some 63 ∧
      columnBay 63 ≠ 1 ∧ (s.cleanupWave c.scanOps.rowId 63).relays ≠ [] ∧
      ((crossing []).cleanupWave c.scanOps.rowId 63).relays = [] ∧ s.link.bays[(1 : BayId)].state = .online ∧
      c.ending = none ∧ s.arbiter.waiting = [] ∧ s.Quiet := by
  refine ⟨?_, ?_, ?_, ?_, ?_, ?_, ?_, ?_, ?_, ?_, rfl, rfl⟩ <;> decide

/-- R141: the drop of the new column's bay takes the ending, and the cleanup wave of the old column is offered. -/
theorem test_drop_new_column :
    after (.frameFinalFailure .noReply) (crossing [crosspoint 0 63, isolation 0 0]) (fun t =>
      t.contexts[(7 : SiteId)].ending == some .bayFault && t.contexts[(7 : SiteId)].scanPhase == .cleanup &&
        (t.contexts[(7 : SiteId)].due.map fun w => w.relays) == [[crosspoint 0 63, isolation 0 0]]) = true := by decide

/-- Path 1 is the guard of a scan and has its relays in bay 1, while it is switched on and off; and the scan stands at a column of bay 1 in
its cleanup. -/
theorem witness_drop_guard (phase : ScanPhase) :
    let s := fails ((guarding [] .online).modContext 7 fun c => { c with scanPhase := phase, cleanupHold := none, column := none })
    let at64 := fails ((guarding [] .online).modContext 7 fun c => { c with scanPhase := .cleanup, cleanupHold := none, column := some 64 })
    (s.contexts[(7 : SiteId)].connect = [1] ∧ (∃ r ∈ s.relaySet 1, relayBay r = 1) ∧ s.contexts[(7 : SiteId)].scanPhase = phase ∧
      s.contexts[(7 : SiteId)].column = none) ∧
      at64.contexts[(7 : SiteId)].column = some 64 ∧ columnBay 64 = 1 ∧ at64.contexts[(7 : SiteId)].cleanupHold = none := by
  refine ⟨⟨rfl, ?_, rfl, rfl⟩, rfl, by decide, rfl⟩
  have e : (fails ((guarding [] .online).modContext 7 fun c =>
      { c with scanPhase := phase, cleanupHold := none, column := none })).relaySet 1 = [crosspoint 15 127, isolation 1 15] := by
    rw [← relay_set_of_guarding [] .online]
    simp only [State.relaySet, State.pathCrosspoints, State.pathIsolations, State.pathHolds]; rfl
  exact ⟨crosspoint 15 127, by rw [e]; exact List.mem_cons_self, by decide⟩

/-- Lane 7 waits for row 15 with a SWITCH when bay 1 drops. -/
theorem witness_waiting_drop :
    let s := fails ((linked (waitingState 4)).modContext 7 fun c => { c with passed := false, phase := .claim })
    (∃ e ∈ s.arbiter.waiting, e.lane = 7) ∧ s.contexts[(7 : SiteId)].passed = false ∧
      (∀ m : SiteId, m ≠ 7 → s.contexts[m].order = none ∧ s.contexts[m].ending = none) ∧ s.contexts[(7 : SiteId)].ending = none ∧
      s.contexts[(7 : SiteId)].due = [] ∧ s.contexts[(7 : SiteId)].order = some aSwitch ∧ aSwitch.kind = .switch ∧
      s.link.bays[(1 : BayId)].state = .online ∧ s.Quiet := by
  refine ⟨exists_of_any (by decide), ?_, ?_, ?_, ?_, ?_, ?_, ?_, rfl, rfl⟩ <;> first | rfl | decide

/-- The claim of lane 7 has been granted; its connect path 1 was `prior`, bay 1 of its relays has dropped meanwhile, and is HELD or ONLINE
again. -/
def granted (prior : PriorState) (bay : BayState) : State :=
  let s := ((running.modContext 7 fun _ =>
      { Context.reset with order := some aSwitch, phase := .claim, connect := [1] }).modPath 1 fun p =>
    { p with state := .pending, prior := some prior, site := 7, crosspoints := [(15, 127)], rowSet := [15] }).setHolder 15 (.path 1)
  withBay (linked s) 1 bay

theorem witness_waiting_plan :
    let s := granted .idle .held
    let closing := [crosspoint 15 127, isolation 1 15]
    Going s 7 ∧ s.contexts[(7 : SiteId)].order = some aSwitch ∧ s.contexts[(7 : SiteId)].passed = false ∧
      s.contexts[(7 : SiteId)].scanPhase = .none ∧ s.contexts[(7 : SiteId)].disconnect = [] ∧
      (∀ x, x ∈ ([] : List RelayNo) ↔ ∃ p ∈ s.contexts[(7 : SiteId)].disconnect, s.GivesOpening 7 p x) ∧
      ascendingSet closing ∧ (∀ x, x ∈ closing ↔ ∃ p ∈ s.contexts[(7 : SiteId)].connect, s.GivesClosing p x) ∧
      (∀ x ∈ closing, s.isRetired x = false) ∧ FirstAt (s.BayMissing 7) 8 ∧ s.contexts[(7 : SiteId)].unjudged = false := by
  have e : (granted .idle .held).wholeRelaySet 1 = [crosspoint 15 127, isolation 1 15] := by decide
  refine ⟨⟨rfl, rfl, rfl⟩, rfl, rfl, rfl, rfl, fun x => ⟨nofun, fun ⟨p, hp, _⟩ => nomatch hp⟩, by decide, fun x => ⟨fun h => ?_, ?_⟩,
    fun _ _ => rfl, ⟨?_, ?_⟩, rfl⟩
  · exact ⟨1, List.mem_cons_self, .inl rfl, e ▸ h, nofun⟩
  · rintro ⟨p, hp, -, h, -⟩
    cases List.mem_singleton.1 hp
    exact e ▸ h
  · exact ⟨1, crosspoint 15 127, by decide, .inr ⟨0, rfl, rfl, .inl rfl, by rw [e]; exact List.mem_cons_self, nofun⟩⟩
  · rintro j hj ⟨p, x, -, ⟨h, -⟩ | ⟨k, rfl, -⟩⟩
    · exact nomatch (show (none : Option PathId) = some p from h)
    · omega

/-- R82, R83, R112: the planning event of an IDLE connect path fails while the bay is HELD, and passes once it is ONLINE again; that of an
ACTIVE one is empty and passes its checks. -/
theorem test_waiting_plan :
    ((granted .idle .held).afterGrant 7).lanes[siteLane 7].final = .failed ∧
      ((granted .idle .online).afterGrant 7).contexts[(7 : SiteId)].passed = true ∧
      ((granted .active .held).afterGrant 7).lanes[siteLane 7].final = .done := by decide

/-- The claims of a scan at work that PARK_ALL reaches. -/
theorem witness_park_scan (phase : ScanPhase) (ending : Option Code) (due : List Wave) : (atWork phase ending due).ClaimsSound :=
  claims_sound_bare _ rfl rfl fun n => by
    match n with
    | 7 => exact fun _ => ⟨rfl, rfl⟩
    | 0 | 1 | 2 | 3 | 4 | 5 | 6 => exact nofun

/-- TAKEN is written while PARK_ALL waits for it. -/
theorem witness_taken_parked (kind : Byte) :
    let s := windingDown (withLane 7 { busyLane .fetching .taken with held := some (heldRecord kind 0), deferred := .park })
    s.arbiter.walkOwed = false ∧ s.host.passage = .aborting ∧ s.lanes[(7 : LaneId)].access = some ⟨.taken, pendingAccess⟩ ∧
      s.lanes[(7 : LaneId)].held = some (heldRecord kind 0) ∧ s.lanes[(7 : LaneId)].deferred = .park := ⟨rfl, rfl, rfl, rfl, rfl⟩

/-- The bay of a guard path drops in the break hold of the scan's cleanup, and while the cleanup wave is due in another bay. -/
theorem witness_drop_in_cleanup :
    let hold := fails (guarding [] .online)
    let due := fails ((guarding [] .online).modContext 7 fun c => { c with cleanupHold := none, due := [⟨0, false, [crosspoint 0 63], 5, 0, [], .cleanup⟩] })
    (hold.contexts[(7 : SiteId)].connect = [1] ∧ (∃ r ∈ hold.relaySet 1, relayBay r = 1) ∧
      hold.contexts[(7 : SiteId)].cleanupHold.isSome = true ∧ hold.contexts[(7 : SiteId)].abortTaken = false ∧
      hold.contexts[(7 : SiteId)].due = [] ∧ hold.contexts[(7 : SiteId)].passed = true) ∧
      (∃ w ∈ due.contexts[(7 : SiteId)].due, w.bay ≠ 1) ∧ ∀ w ∈ due.contexts[(7 : SiteId)].due, w.source = .cleanup := by
  refine ⟨⟨rfl, ?_, rfl, rfl, rfl, rfl⟩, by decide, by decide⟩
  have e : (fails (guarding [] .online)).relaySet 1 = [crosspoint 15 127, isolation 1 15] := by
    rw [← relay_set_of_guarding [] .online]
    simp only [State.relaySet, State.pathCrosspoints, State.pathIsolations, State.pathHolds]; rfl
  exact ⟨crosspoint 15 127, by rw [e]; exact List.mem_cons_self, by decide⟩

/-- The re-probe of bay 7, which its ready wait has made HELD, while bay 6 still waits, and once discovery has ended. -/
def heldProbe (d : Discovery) : State :=
  withBay (discovering d (some ⟨7, .probe, .discovery, true⟩)) 7 .held

theorem witness_held_probe :
    let s := heldProbe ⟨.waiting, [], [], [⟨6, 0, 0, false⟩]⟩
    s.link.frame = some ⟨7, .probe, .discovery, true⟩ ∧ s.link.bays[(7 : BayId)].state = .held ∧ s.link.discovery.stage = .waiting ∧
      s.link.discovery.waiting ≠ [] ∧ (∀ x ∈ s.link.discovery.waiting, x.bay ≠ 7) ∧
      (heldProbe .reset).link.discovery.stage = .inactive := by decide

/-- R166, R171: it fails finally. -/
theorem test_held_probe_fails :
    after (.frameFinalFailure .noReply) (heldProbe ⟨.waiting, [], [], [⟨6, 0, 0, false⟩]⟩)
        (fun t => t.link.bays[(7 : BayId)].state == .absent) = true ∧
      after (.frameFinalFailure .noReply) (heldProbe .reset) (fun t => t.link.bays[(7 : BayId)].state == .faulted) = true := by decide

end Sys2Proof.Tests
end

section
/-! PROOFS. Memory accesses (R54): who holds each access in flight, what answers its completion in error and its timeout, and that a
completion of no access is discarded. -/

namespace Sys2Proof.Machine

section
variable {s : State} {h : AccessHolder} {m : MemAccess} {n : LaneId} {op : LaneOp} {tag : Nat} {i : Instr}

/-! ## The access that a tag names -/

theorem completes_iff {access : Option MemAccess} : completes access tag = true ↔ ∃ m, access = some m ∧ m.tag = tag := by
  cases access <;> simp [completes]

theorem Lane.completes_iff {l : Lane} :
    l.completes op tag = true ↔ ∃ m, l.access = some { op := op, access := m } ∧ m.tag = tag := by
  unfold Lane.completes
  split
  next a ha => obtain ⟨op', m⟩ := a; simp [ha]
  next ha => simp [ha]

/-- The test by which a timeout finds its access (R54). -/
def State.expired (s : State) (tag : Nat) (m : MemAccess) : Bool := m.tag == tag && s.reached m.issued Config.memoryTimeout

/-! ## Searches in lists -/

theorem findSome?_toList {α β : Type} (f : α → Option β) (o : Option α) : o.toList.findSome? f = o.bind f := by
  cases o <;> simp

theorem findSome?_filterMap {α β γ : Type} (f : α → Option β) (g : β → Option γ) (l : List α) :
    (l.filterMap f).findSome? g = l.findSome? fun a => (f a).bind g := by
  induction l with
  | nil => rfl
  | cons a l ih => cases hf : f a <;> simp [hf, ih, List.findSome?_cons]

theorem findSome?_ite {α β : Type} (p : α → Bool) (f : α → β) (l : List α) :
    (l.findSome? fun a => if p a then some (f a) else none) = (l.find? p).map f := by
  induction l with
  | nil => rfl
  | cons a l ih => cases hp : p a <;> simp [hp, ih]

/-! ## The accesses in flight, each with the block that made it -/

/-- The block `h` has the access `m` in flight. -/
def State.HoldsAccess (s : State) (h : AccessHolder) (m : MemAccess) : Prop :=
  match h with
  | .passage => s.host.access = some m
  | .service => s.service.access = some m
  | .lane n op => s.lanes[n].access = some { op := op, access := m }
  | .laneStatus n => s.lanes[n].port.access = some m
  | .bayStatus b => s.link.bays[b].port.access = some m

/-- `State.accesses`, each access with its block. -/
def State.holdings (s : State) : List (AccessHolder × MemAccess) :=
  (s.host.access.map (.passage, ·)).toList ++ (s.service.access.map (.service, ·)).toList ++
    ((List.finRange 9).filterMap fun n => s.lanes[n].access.map fun a => (.lane n a.op, a.access)) ++
    ((List.finRange 9).filterMap fun n => s.lanes[n].port.access.map (.laneStatus n, ·)) ++
    (List.finRange 8).filterMap fun b => s.link.bays[b].port.access.map (.bayStatus b, ·)

theorem State.holdings_map_snd : s.holdings.map Prod.snd = s.accesses := by
  simp only [State.holdings, State.accesses, List.map_append, List.map_filterMap, ← Option.toList_map, Option.map_map, Function.comp_def,
    Option.map_id']

theorem State.mem_holdings : (h, m) ∈ s.holdings ↔ s.HoldsAccess h m := by
  cases h with
  | lane n op =>
    have field : (∃ a, s.lanes[n].access = some a ∧ a.op = op ∧ a.access = m) ↔ s.lanes[n].access = some ⟨op, m⟩ :=
      ⟨fun ⟨_, ha, hop, hm⟩ => hop ▸ hm ▸ ha, fun ha => ⟨_, ha, rfl, rfl⟩⟩
    simpa [State.holdings, State.HoldsAccess] using field
  | _ => simp [State.holdings, State.HoldsAccess]

theorem State.HoldsAccess.mem_accesses (hm : s.HoldsAccess h m) : m ∈ s.accesses :=
  State.holdings_map_snd ▸ List.mem_map_of_mem (State.mem_holdings.2 hm)

/-- The block of a holding whose access has timed out. -/
def State.expiredHolder (s : State) (tag : Nat) (x : AccessHolder × MemAccess) : Option AccessHolder :=
  if s.expired tag x.2 then some x.1 else none

theorem State.expiredHolder_map (access : Option MemAccess) :
    (access.map (h, ·)).bind (s.expiredHolder tag) = if s.timedOut access tag then some h else none := by
  cases access <;> rfl

theorem State.laneTimedOut_eq_bind :
    s.laneTimedOut tag n = (s.lanes[n].access.map fun a => (AccessHolder.lane n a.op, a.access)).bind (s.expiredHolder tag) := by
  unfold State.laneTimedOut
  split
  next a ha => rw [ha]; rfl
  next ha => rw [ha]; rfl

/-- The search of a timeout goes through the blocks in the order of `State.holdings`. -/
theorem State.timedOutHolder_eq_findSome : s.timedOutHolder tag = s.holdings.findSome? (s.expiredHolder tag) := by
  simp only [State.holdings, List.findSome?_append, findSome?_filterMap, findSome?_toList, State.expiredHolder_map,
    ← State.laneTimedOut_eq_bind, findSome?_ite]
  unfold State.timedOutHolder
  cases s.timedOut s.host.access tag with
  | true => rfl
  | false =>
    cases s.timedOut s.service.access tag with
    | true => rfl
    | false =>
      cases (List.finRange 9).findSome? (s.laneTimedOut tag) with
      | some _ => rfl
      | none => cases (List.finRange 9).find? fun n => s.timedOut s.lanes[n].port.access tag <;> rfl

/-- An access whose tag no other access has is all that a search for the tag finds. -/
theorem State.holdings_filter_alone (hm : s.HoldsAccess h m) (alone : (s.accesses.filter fun a => a.tag == m.tag) = [m]) :
    (s.holdings.filter fun x => x.2.tag == m.tag) = [(h, m)] := by
  rw [← State.holdings_map_snd, List.filter_map] at alone
  obtain ⟨x, (hx : (s.holdings.filter fun x => x.2.tag == m.tag) = [x]), -⟩ := List.map_eq_singleton_iff.1 alone
  have hmem : (h, m) ∈ s.holdings.filter fun x => x.2.tag == m.tag :=
    List.mem_filter.2 ⟨State.mem_holdings.2 hm, beq_self_eq_true _⟩
  rw [hx] at hmem ⊢
  rw [List.mem_singleton.1 hmem]

/-- The timeout of an access whose tag no other access has finds the block of the access, from its limit on. -/
theorem State.timedOutHolder_of_alone (hm : s.HoldsAccess h m) (alone : (s.accesses.filter fun a => a.tag == m.tag) = [m]) :
    s.timedOutHolder m.tag = if 50000 ≤ (s.now - m.issued).toNat then some h else none := by
  have search : (s.holdings.find? fun x => s.expired m.tag x.2) =
      (s.holdings.filter fun x => x.2.tag == m.tag).find? fun x => s.reached x.2.issued Config.memoryTimeout := by
    simp only [List.find?_filter, State.expired, Bool.decide_and, Bool.decide_eq_true]
  have holder : s.timedOutHolder m.tag = (s.holdings.find? fun x => s.expired m.tag x.2).map Prod.fst :=
    State.timedOutHolder_eq_findSome.trans (findSome?_ite _ _ _)
  rw [holder, search, State.holdings_filter_alone hm alone]
  by_cases limit : 50000 ≤ (s.now - m.issued).toNat
  · have reached : s.reached m.issued Config.memoryTimeout = true := decide_eq_true limit
    simp only [List.find?_cons, reached, if_pos limit]; rfl
  · have running : s.reached m.issued Config.memoryTimeout = false := decide_eq_false limit
    simp only [List.find?_cons, running, if_neg limit]; rfl

theorem State.timedOutHolder_of_free (free : ∀ a ∈ s.accesses, a.tag ≠ tag) : s.timedOutHolder tag = none := by
  rw [State.timedOutHolder_eq_findSome, List.findSome?_eq_none_iff]
  intro x hx
  have other : x.2.tag ≠ tag := free x.2 (State.mem_holdings.1 hx).mem_accesses
  simp [State.expiredHolder, State.expired, other]

theorem exec_memoryAccessTimeout :
    exec (.memoryAccessTimeout tag) s = .next ((s.timedOutHolder tag).elim s s.accessFailed) := by
  show execMemoryAccessTimeout tag s = _
  unfold execMemoryAccessTimeout
  cases s.timedOutHolder tag <;> rfl

/-! ## A completion in error -/

theorem exec_lane_errorOf (ha : s.lanes[n].access = some { op := op, access := m }) :
    exec (op.errorOf n m.tag) s = .next (s.accessFailed (.lane n op)) := by
  have hc : s.lanes[n].completes op m.tag = true := Lane.completes_iff.2 ⟨m, ha, rfl⟩
  cases op with
  | endLinkRead =>
    have other : ¬ s.lanes[n].completes .linkRead m.tag = true := fun hl => by
      obtain ⟨m', hm', -⟩ := Lane.completes_iff.1 hl
      exact nomatch ha.symm.trans hm'
    exact congrArg Host.Outcome.next ((if_neg other).trans (if_pos hc))
  | _ => exact congrArg Host.Outcome.next (if_pos hc)

/-- The completion in error of an access answers what `State.accessFailed` says of the block that made it. -/
theorem exec_errorOf (hi : s.ErrorOf m i) : ∃ h, s.HoldsAccess h m ∧ exec i s = .next (s.accessFailed h) := by
  obtain ⟨n, op, ha, rfl⟩ | ⟨n, ha, rfl⟩ | ⟨b, ha, rfl⟩ | ⟨ha, hi⟩ | ⟨ha, hi⟩ := hi
  · exact ⟨.lane n op, ha, exec_lane_errorOf ha⟩
  · exact ⟨.laneStatus n, ha, congrArg Host.Outcome.next (if_pos (completes_iff.2 ⟨m, ha, rfl⟩))⟩
  · exact ⟨.bayStatus b, ha, congrArg Host.Outcome.next (if_pos (completes_iff.2 ⟨m, ha, rfl⟩))⟩
  · refine ⟨.passage, ha, ?_⟩
    have hc : completes s.host.access m.tag = true := completes_iff.2 ⟨m, ha, rfl⟩
    obtain ⟨hp, rfl⟩ | ⟨⟨j, hp⟩, rfl⟩ | ⟨⟨j, hp⟩, rfl⟩ := hi
    · simp [exec, execConfigBlockReadDone, State.accessFailed, State.passageAccessFailed, octetsOf, hp, hc]
    · simp [exec, execEnableWearTransferDone, State.accessFailed, State.passageAccessFailed, octetsOf, hp, hc]
    · simp [exec, execDisableSaveTransferDone, State.accessFailed, State.passageAccessFailed, hp, hc]
  · refine ⟨.service, ha, ?_⟩
    have hc : completes s.service.access m.tag = true := completes_iff.2 ⟨m, ha, rfl⟩
    obtain ⟨⟨list, count, k, ho⟩, rfl⟩ | ⟨⟨j, ho⟩, rfl⟩ | ⟨⟨j, ho⟩, rfl⟩ := hi
    · simp [exec, execDefineEntryReadDone, State.accessFailed, State.serviceAccessFailed, octetsOf, ho, hc]
    · simp [exec, execWearSaveTransferDone, State.accessFailed, State.serviceAccessFailed, ho, hc]
    · simp [exec, execWearLoadTransferDone, State.accessFailed, State.serviceAccessFailed, octetsOf, ho, hc]

/-! ## A completion of no access in flight -/

section
variable (free : ∀ a ∈ s.accesses, a.tag ≠ tag)
include free

/-- No block takes a completion whose tag no access has. -/
theorem not_holdsAccess_of_free (m : MemAccess) (h : AccessHolder) : ¬ (s.HoldsAccess h m ∧ m.tag = tag) :=
  fun ⟨hm, ht⟩ => free m hm.mem_accesses ht

theorem not_lane_completes_of_free (n : LaneId) (op : LaneOp) : ¬ s.lanes[n].completes op tag = true :=
  fun hc => have ⟨m, ha⟩ := Lane.completes_iff.1 hc; not_holdsAccess_of_free free m (.lane n op) ha

theorem not_laneStatus_completes_of_free (n : LaneId) : ¬ completes s.lanes[n].port.access tag = true :=
  fun hc => have ⟨m, ha⟩ := completes_iff.1 hc; not_holdsAccess_of_free free m (.laneStatus n) ha

theorem not_bayStatus_completes_of_free (b : BayId) : ¬ completes s.link.bays[b].port.access tag = true :=
  fun hc => have ⟨m, ha⟩ := completes_iff.1 hc; not_holdsAccess_of_free free m (.bayStatus b) ha

theorem passage_completes_of_free : completes s.host.access tag = false :=
  Bool.eq_false_iff.2 fun hc => have ⟨m, ha⟩ := completes_iff.1 hc; not_holdsAccess_of_free free m .passage ha

theorem service_completes_of_free : completes s.service.access tag = false :=
  Bool.eq_false_iff.2 fun hc => have ⟨m, ha⟩ := completes_iff.1 hc; not_holdsAccess_of_free free m .service ha

/-- A completion, or a timeout, of no access in flight is discarded. -/
theorem exec_completion_of_free (hi : completionTag i = some tag) : exec i s = .next s := by
  have host := passage_completes_of_free free
  have service := service_completes_of_free free
  cases i with
  | recordReadDone n _ _ | headReadDone n _ _ | startResultWriteDone n _ _ | takenWriteDone n _ _ | endResultWriteDone n _ _
  | stateWriteDone n _ _ =>
    cases hi; exact congrArg Host.Outcome.next (if_neg (not_lane_completes_of_free free n _))
  | linkReadDone n _ _ =>
    cases hi
    exact congrArg Host.Outcome.next
      ((if_neg (not_lane_completes_of_free free n _)).trans (if_neg (not_lane_completes_of_free free n _)))
  | laneStatusWriteDone n _ _ => cases hi; exact congrArg Host.Outcome.next (if_neg (not_laneStatus_completes_of_free free n))
  | bayStatusWriteDone b _ _ => cases hi; exact congrArg Host.Outcome.next (if_neg (not_bayStatus_completes_of_free free b))
  | configBlockReadDone t r => cases hi; simp [exec, execConfigBlockReadDone, host]
  | enableWearTransferDone t r => cases hi; cases hp : s.host.passage <;> simp [exec, execEnableWearTransferDone, hp, host]
  | disableSaveTransferDone t ok => cases hi; cases hp : s.host.passage <;> simp [exec, execDisableSaveTransferDone, hp, host]
  | defineEntryReadDone t r => cases hi; cases ho : s.service.order <;> simp [exec, execDefineEntryReadDone, ho, service]
  | wearSaveTransferDone t ok => cases hi; cases ho : s.service.order <;> simp [exec, execWearSaveTransferDone, ho, service]
  | wearLoadTransferDone t r => cases hi; cases ho : s.service.order <;> simp [exec, execWearLoadTransferDone, ho, service]
  | memoryAccessTimeout t => cases hi; rw [exec_memoryAccessTimeout, State.timedOutHolder_of_free free]; rfl
  | _ => exact nomatch hi

end

end

/-! ## The statement -/

/-- Settles O16: the search of a timeout finds the block of the access, and both events end in its `State.accessFailed`. -/
theorem timeoutIsAMemoryError : Obligations.TimeoutIsAMemoryError := by
  intro s
  refine ⟨fun m i hi alone => ?_, fun i tag hi free => exec_completion_of_free free hi⟩
  obtain ⟨h, hm, herror⟩ := exec_errorOf hi
  have htimeout := exec_memoryAccessTimeout (s := s) (tag := m.tag)
  rw [State.timedOutHolder_of_alone hm alone] at htimeout
  refine ⟨fun early => ?_, fun late => ⟨s.accessFailed h, ?_, herror⟩⟩
  · rw [htimeout, if_neg (Nat.not_le.2 early)]; rfl
  · rw [htimeout, if_pos late]; rfl

end Sys2Proof.Machine
end

section
/-! PROOFS. The wear counters (R143, R144, R153): what a write to the wear table gives each counter, which commands touch the matrix at
all, and that only WEAR_CLEAR, the two loads and the resets lower a counter. -/

namespace Sys2Proof.Machine

section
variable {s t u : State} {i : Instr} {n m : RelayNo} {c limit : Nat} {l : List (RelayNo × Nat)}

/-! ## The wear table -/

theorem wearLookup_le (h : ∀ e ∈ l, e.2 ≤ limit) : wearLookup n l ≤ limit := by
  induction l with
  | nil => exact Nat.zero_le _
  | cons e l ih =>
    obtain ⟨he, hl⟩ := List.forall_mem_cons.1 h
    unfold wearLookup
    split
    · exact he
    · exact ih hl

/-- A write brings no entry but its own. -/
theorem mem_wearInsert {e : RelayNo × Nat} (h : e ∈ wearInsert n c l) : e = (n, c) ∨ e ∈ l := by
  induction l with
  | nil => grind [wearInsert]
  | cons x l ih => grind [wearInsert]

/-- A write that does not lower the counter it names lowers no other. -/
theorem wearLookup_le_wearInsert (h : wearLookup n l ≤ c) : wearLookup m l ≤ wearLookup m (wearInsert n c l) := by
  induction l with
  | nil => exact Nat.zero_le _
  | cons x l ih => grind [wearInsert, wearLookup]

/-! ## Counters within their maximum -/

/-- R143: no counter passes its maximum. -/
def State.WearBounded (s : State) : Prop := ∀ e ∈ s.health.wear, e.2 ≤ Config.wearMax

/-- R153: from counters within the maximum, the change from `s` to `t` lowers none and takes none past the maximum. -/
def State.WearGrows (s t : State) : Prop := s.WearBounded → t.WearBounded ∧ ∀ n, s.wearOf n ≤ t.wearOf n

theorem State.WearBounded.wearOf_le (h : s.WearBounded) (n : RelayNo) : s.wearOf n ≤ Config.wearMax := wearLookup_le h

theorem State.WearBounded.of_wear_eq (h : t.health.wear = s.health.wear) (hs : s.WearBounded) : t.WearBounded := by
  unfold State.WearBounded
  rwa [h]

theorem State.WearGrows.of_wear_eq (h : t.health.wear = s.health.wear) : s.WearGrows t := fun hs =>
  ⟨hs.of_wear_eq h, fun n => (congrArg (wearLookup n) h).ge⟩

theorem State.WearGrows.refl : s.WearGrows s := .of_wear_eq rfl

theorem wear_eq_of_matrix (h : t.outer.matrix = s.outer.matrix) : t.health.wear = s.health.wear :=
  congrArg (fun x : Health × ConfigCopies => x.1.wear) h

theorem State.WearGrows.of_matrix (h : t.outer.matrix = s.outer.matrix) : s.WearGrows t := .of_wear_eq (wear_eq_of_matrix h)

theorem State.WearGrows.trans (hst : s.WearGrows t) (htu : t.WearGrows u) : s.WearGrows u := fun hs =>
  have ⟨ht, le⟩ := hst hs
  have ⟨hu, le'⟩ := htu ht
  ⟨hu, fun n => (le n).trans (le' n)⟩

theorem putWear_bounded (hc : c ≤ Config.wearMax) (hs : s.WearBounded) : (s.putWear n c).WearBounded := fun e he =>
  match mem_wearInsert he with
  | .inl h => h ▸ hc
  | .inr h => hs e h

/-! ## The wear of a wave (R144) -/

theorem addWear_grows (w : Wave) (n : RelayNo) : s.WearGrows (s.addWear w n) := fun hs =>
  have saturated : s.wearOf n ≤ saturatingWear (s.wearOf n) (s.wearWeight w n) :=
    Nat.le_min.2 ⟨Nat.le_add_right _ _, hs.wearOf_le n⟩
  ⟨putWear_bounded (Nat.min_le_right _ _) hs, fun _ => wearLookup_le_wearInsert saturated⟩

theorem addWaveWear_grows (w : Wave) : s.WearGrows (s.addWaveWear w) := by
  unfold State.addWaveWear
  induction w.relays generalizing s with
  | nil => exact .refl
  | cons n ns ih => exact (addWear_grows w n).trans ih

theorem waveApplied_grows (w : Wave) : s.WearGrows (s.waveApplied w) := by
  have applied : s.WearGrows (s.applyWave w) := .of_matrix (s.applyWave_matrix w)
  have windowed : (s.applyWave w).WearGrows (((s.applyWave w).addWaveWear w).setWindow w) :=
    (addWaveWear_grows w).trans (.of_matrix (State.setWindow_matrix _ w))
  unfold State.waveApplied
  dsimp only
  split <;> exact applied.trans windowed

theorem ackWave_grows (owner : FrameOwner) (w : Wave) : s.WearGrows (s.ackWave owner w) := by
  have freed : s.WearGrows (s.freeLink.waveApplied w) := (State.WearGrows.of_matrix s.freeLink_matrix).trans (waveApplied_grows w)
  cases owner with
  | context n => exact freed.trans (.of_matrix (State.contextAcked_matrix _ n w))
  | _ => exact freed

theorem waveAcked_grows (f : LinkFrame) : s.WearGrows (s.waveAcked f) := by
  unfold State.waveAcked
  split
  next w _ _ =>
    split
    · exact (ackWave_grows f.owner w).trans (.of_matrix (State.finishStep_matrix _))
    · exact .refl
  all_goals exact .refl

/-! ## The wear area and WEAR_CLEAR (R149–R152) -/

/-- What the wear area holds fits a counter: 32 bits are read for each. -/
theorem loadTransfer_bounded (j : Nat) (bytes : List Byte) (hs : s.WearBounded) : (s.loadTransfer j bytes).WearBounded := by
  unfold State.loadTransfer
  induction List.range 16 generalizing s with
  | nil => exact hs
  | cons k ks ih =>
    have fits : (le32 bytes (4 * k)).toNat ≤ Config.wearMax := Nat.le_of_lt_succ (le32 bytes (4 * k)).isLt
    exact ih (putWear_bounded fits hs)

theorem clearRun_bounded (first count : Nat) (hs : s.WearBounded) : (s.clearRun first count).WearBounded :=
  fun e he => hs e (List.mem_of_mem_filter he)

theorem loadDone_bounded (j : Nat) (result : Option (List Byte)) (hs : s.WearBounded) : (s.loadDone j result).WearBounded := by
  have hd : s.serviceAccessDone.WearBounded := hs
  unfold State.loadDone
  cases result with
  | none =>
    dsimp only
    split <;> exact hd.of_wear_eq (wear_eq_of_matrix (by simp))
  | some bytes =>
    have hl := loadTransfer_bounded j bytes hd
    dsimp only
    repeat' split
    all_goals exact hl.of_wear_eq (wear_eq_of_matrix (by simp))

/-! ## The passages of ENABLE and DISABLE -/

theorem enableFails_wear (code : EnableFailure) : (s.enableFails code).health.wear = s.health.wear := rfl

theorem startWearLoad_wear : s.startWearLoad.health.wear = s.health.wear := by
  unfold State.startWearLoad
  split <;> rfl

theorem discoveryEnds_wear : s.discoveryEnds.health.wear = s.health.wear := startWearLoad_wear

theorem discoveryMoves_wear : s.discoveryMoves.health.wear = s.health.wear := by
  have passed : s.passEnds.health.wear = s.health.wear := wear_eq_of_matrix s.passEnds_matrix
  unfold State.discoveryMoves
  dsimp only
  repeat' split
  · exact discoveryEnds_wear.trans passed
  · exact passed
  · exact discoveryEnds_wear
  · rfl

theorem discoveryReplied_wear (b : BayId) (model : Byte) (ready : Bool) (reasons : BitVec 3) :
    (s.discoveryReplied b model ready reasons).health.wear = s.health.wear := by
  unfold State.discoveryReplied
  dsimp only
  split <;> exact discoveryMoves_wear.trans (wear_eq_of_matrix (by simp))

theorem discoveryFailed_wear (b : BayId) : (s.discoveryFailed b).health.wear = s.health.wear := by
  unfold State.discoveryFailed
  dsimp only
  repeat' split
  all_goals exact discoveryMoves_wear.trans (wear_eq_of_matrix (by simp))

theorem readyWaitExpired_wear (b : BayId) : (s.readyWaitExpired b).health.wear = s.health.wear :=
  discoveryMoves_wear.trans (wear_eq_of_matrix (by simp))

theorem repeatFailed_wear (f : LinkFrame) : (s.repeatFailed f).health.wear = s.health.wear := by
  unfold State.repeatFailed
  split
  · rfl
  · split
    next => exact (wear_eq_of_matrix (State.finishStep_matrix _)).trans (discoveryFailed_wear f.bay)
    all_goals exact wear_eq_of_matrix (by simp)

theorem takeConfig_wear (bytes : List Byte) : (s.takeConfig bytes).health.wear = s.health.wear := rfl

theorem configRead_wear (result : Option (List Byte)) : (s.configRead result).health.wear = s.health.wear := by
  unfold State.configRead
  split
  · rfl
  next bytes =>
    split
    · rfl
    · exact (wear_eq_of_matrix (State.startDiscovery_matrix _ _)).trans (takeConfig_wear bytes)

theorem shutDown_wear : s.shutDown.health.wear = s.health.wear := by
  unfold State.shutDown
  simp only [wear_eq_of_matrix (State.writeBayWords_matrix _), wear_eq_of_matrix (State.writeLaneWords_matrix _)]
  rfl

theorem disableTransferDone_wear (j : Nat) (ok : Bool) : (s.disableTransferDone j ok).health.wear = s.health.wear := by
  have raised : (s.raiseMemoryUnless ok).health.wear = s.health.wear := wear_eq_of_matrix (by simp)
  unfold State.disableTransferDone
  dsimp only
  split
  · exact shutDown_wear.trans raised
  · exact (wear_eq_of_matrix (State.disableTransfer_matrix _ _)).trans raised

theorem enableLoaded_wear : s.enableLoaded.health.wear = s.health.wear := by
  unfold State.enableLoaded
  simp only [wear_eq_of_matrix (State.writeLaneWords_matrix _), wear_eq_of_matrix (State.writeBayWords_matrix _)]
  rfl

theorem enableTransferDone_bounded (j : Nat) (result : Option (List Byte)) (hs : s.WearBounded) :
    (s.enableTransferDone j result).WearBounded := by
  unfold State.enableTransferDone
  cases result with
  | none => exact fun _ he => nomatch he
  | some bytes =>
    have hl := loadTransfer_bounded j bytes hs
    dsimp only
    split
    · exact hl.of_wear_eq enableLoaded_wear
    · exact hl

/-! ## A memory error (R54) -/

/-- A memory error changes no counter, but that of ENABLE's load (R149). -/
theorem accessFailed_wear (h : AccessHolder) :
    (s.accessFailed h).health.wear = s.health.wear ∨ (∃ j, s.host.passage = .wearLoad j) ∧ (s.accessFailed h).WearBounded := by
  cases h with
  | passage =>
    simp only [State.accessFailed, State.passageAccessFailed]
    split
    next => exact .inl (configRead_wear none)
    next j hp => exact .inr ⟨⟨j, hp⟩, fun _ he => nomatch he⟩
    next j _ => exact .inl (disableTransferDone_wear j false)
    all_goals exact .inl rfl
  | service =>
    refine .inl (wear_eq_of_matrix ?_)
    simp only [State.accessFailed, State.serviceAccessFailed, State.loadDone]
    repeat' split
    all_goals simp
  | lane | laneStatus | bayStatus => exact .inl (wear_eq_of_matrix (by simp [State.accessFailed]))

/-! ## The commands -/

@[simp] theorem State.refuse_matrix : s.refuse.outer.matrix = s.outer.matrix := rfl
@[simp] theorem State.accept_matrix : s.accept.outer.matrix = s.outer.matrix := rfl
@[simp] theorem State.setLiveLine_matrix (r : RowId) (level : Bool) : (s.setLiveLine r level).outer.matrix = s.outer.matrix := rfl
@[simp] theorem State.startParking_matrix (d : DeviceState) : (s.startParking d).outer.matrix = s.outer.matrix := by
  unfold State.startParking
  rw [State.finishStep_matrix, foldl_matrix _ fun t n => congrArg Outer.matrix (t.parkLane_outer n)]
  rfl
@[simp] theorem State.pollExpired_matrix (n : LaneId) : (s.pollExpired n).outer.matrix = s.outer.matrix := by
  unfold State.pollExpired
  dsimp only
  split <;> simp
@[simp] theorem State.cadenceExpired_matrix (n : LaneId) : (s.cadenceExpired n).outer.matrix = s.outer.matrix := by
  unfold State.cadenceExpired
  dsimp only
  split <;> simp
@[simp] theorem State.countTimeout_outer (n : SiteId) : (s.countTimeout n).outer = s.outer := rfl
@[simp] theorem State.waveRefused_matrix (f : LinkFrame) (r : BitVec 3) : (s.waveRefused f r).outer.matrix = s.outer.matrix := by
  unfold State.waveRefused
  repeat' split
  all_goals simp
@[simp] theorem State.sensed_matrix (f : LinkFrame) (words : List Byte) : (s.sensed f words).outer.matrix = s.outer.matrix := by
  unfold State.sensed
  repeat' split
  all_goals simp
@[simp] theorem State.firstFailure_matrix (f : LinkFrame) : (s.firstFailure f).outer.matrix = s.outer.matrix := by
  unfold State.firstFailure
  repeat' split
  all_goals rfl

/-- The commands that can write a wear counter, a WORN or RETIRED mark, a threshold or a configuration copy. -/
def touchesMatrix : Instr → Bool
  | .wearClear | .wearLoadTransferDone _ _ | .enableWearTransferDone _ _ | .powerOnReset | .pcieHotReset | .resetDevice
  | .memoryAccessTimeout _ | .waveAck | .configBlockReadDone _ _ | .disableSaveTransferDone _ _ | .frameFinalFailure _
  | .discoveryProbeReply _ _ _ | .readyWaitExpiry _ => true
  | _ => false

/-- Every other command is one operation, or a guard around operations, that leaves the matrix as it was. -/
theorem exec_matrix (hi : touchesMatrix i = false) (h : exec i s = .next t) : t.outer.matrix = s.outer.matrix := by
  cases i with
  | wearClear | wearLoadTransferDone | enableWearTransferDone | powerOnReset | pcieHotReset | resetDevice | memoryAccessTimeout
  | waveAck | configBlockReadDone | disableSaveTransferDone | frameFinalFailure | discoveryProbeReply | readyWaitExpiry =>
    exact nomatch hi
  | enable | causeRead | causeEnableWrite | configAddressWrite | registerWrite | srqChange | busyWindowEnd =>
    obtain rfl := Host.Outcome.next.inj h
    repeat' split
    all_goals rfl
  | laneStart | strobe =>
    obtain rfl := Host.Outcome.next.inj h
    split
    · exact foldl_matrix _ (fun t n => by split <;> simp) _ _
    · rfl
  | liveEdge row level =>
    obtain rfl := Host.Outcome.next.inj h
    dsimp only
    split
    · exact (State.finishStep_matrix _).trans (foldl_matrix _ (fun t n => by simp) _ _)
    · rfl
  | offsetTimerExpiry =>
    obtain rfl := Host.Outcome.next.inj h
    dsimp only
    repeat' split
    all_goals simp
  | _ =>
    obtain rfl := Host.Outcome.next.inj h
    repeat' split
    all_goals simp

/-- What a command can do to the counters: keep or raise each, or be one of those that R153 lets lower them. -/
theorem exec_wear (h : exec i s = .next t) :
    s.WearGrows t ∨ s.mayLowerWear i = true ∧ (s.WearBounded → t.WearBounded) := by
  cases i with
  | powerOnReset | pcieHotReset | resetDevice =>
    obtain rfl := Host.Outcome.next.inj h
    exact .inr ⟨rfl, fun _ _ he => nomatch he⟩
  | wearClear =>
    obtain rfl := Host.Outcome.next.inj h
    refine .inr ⟨rfl, fun hs => ?_⟩
    split
    next first count _ => exact (clearRun_bounded first count hs).of_wear_eq (wear_eq_of_matrix (by simp))
    all_goals exact hs
  | wearLoadTransferDone =>
    obtain rfl := Host.Outcome.next.inj h
    refine .inr ⟨rfl, fun hs => ?_⟩
    split
    next j _ _ => exact loadDone_bounded j _ hs
    all_goals exact hs
  | enableWearTransferDone =>
    obtain rfl := Host.Outcome.next.inj h
    refine .inr ⟨rfl, fun hs => ?_⟩
    split
    next j _ _ => exact enableTransferDone_bounded j _ hs
    all_goals exact hs
  | memoryAccessTimeout tag =>
    rw [exec_memoryAccessTimeout] at h
    obtain rfl := Host.Outcome.next.inj h
    cases s.timedOutHolder tag with
    | none => exact .inl .refl
    | some holder =>
      obtain kept | ⟨⟨j, hp⟩, bounded⟩ := accessFailed_wear (s := s) holder
      · exact .inl (.of_wear_eq kept)
      · exact .inr ⟨by simp [State.mayLowerWear, hp], fun _ => bounded⟩
  | waveAck =>
    obtain rfl := Host.Outcome.next.inj h
    split
    · exact .inl (waveAcked_grows _)
    · exact .inl .refl
  | configBlockReadDone =>
    obtain rfl := Host.Outcome.next.inj h
    split
    · exact .inl (.of_wear_eq (configRead_wear _))
    · exact .inl .refl
  | disableSaveTransferDone =>
    obtain rfl := Host.Outcome.next.inj h
    split
    next j _ _ => exact .inl (.of_wear_eq (disableTransferDone_wear j _))
    all_goals exact .inl .refl
  | frameFinalFailure =>
    obtain rfl := Host.Outcome.next.inj h
    split
    · exact .inl (.of_wear_eq (repeatFailed_wear _))
    · exact .inl .refl
  | discoveryProbeReply =>
    obtain rfl := Host.Outcome.next.inj h
    repeat' split
    next => exact .inl (.of_wear_eq (discoveryReplied_wear _ _ _ _))
    all_goals exact .inl .refl
  | readyWaitExpiry b =>
    obtain rfl := Host.Outcome.next.inj h
    split
    · exact .inl (.of_wear_eq (readyWaitExpired_wear b))
    · exact .inl .refl
  | _ => exact .inl (.of_matrix (exec_matrix rfl h))

end

/-! ## The statement -/

/-- Settles O56: by what a command can do to the counters (`exec_wear`). -/
theorem wearNeverDecreases : Obligations.WearNeverDecreases := by
  intro s t i hs h
  have bounded : s.WearBounded := hs.bounded
  obtain grows | ⟨lowers, keeps⟩ := exec_wear h
  · obtain ⟨ht, le⟩ := grows bounded
    exact ⟨ht.wearOf_le, fun _ => le⟩
  · exact ⟨(keeps bounded).wearOf_le, fun stays => nomatch stays.symm.trans lowers⟩

end Sys2Proof.Machine
end
